-- ==== Sys2Proof/Word.lean ====
section
/-! DEFINITION. The word types: a byte (`00_scope.md` R6, R7) and the 16-bit status word (`10_state.md` R27). -/

namespace Sys2Proof

/-- A byte: an unsigned 8-bit value, the only quantity the block receives and sends (R6, R7, R46). -/
abbrev Byte := BitVec 8

/-- A finite sequence of bytes (R7): a payload, a wire payload or a frame, index 0 first (R43). -/
abbrev Bytes := List Byte

/-- The read-only status word of R27. -/
abbrev StatusWord := BitVec 16

end Sys2Proof
end

