-- ==== Sys2Proof/Config.lean ====
section
/-! DEFINITION. The four parameters of the block (`00_scope.md` R6) and the values `State.reset` carries for them (entry 6). -/

namespace Sys2Proof

/-- A capacity: a natural number or `INF` (R6, `MAX_WIRE` and `MAX_PAYLOAD`). -/
inductive Capacity where
  /-- `INF`: unbounded, the reference value. -/
  | inf
  /-- At most `n` bytes. -/
  | upTo (n : Nat)
deriving DecidableEq, Repr

/-- The parameters of R6, constant for the life of a connection. -/
structure Params where
  /-- `RELIABLE`: the level of the transport's `isReliable()` (R33, R132). -/
  reliable : Bool
  /-- `MAX_RETRIES`: how many retransmissions one frame may have (R158). -/
  maxRetries : Nat
  /-- `MAX_WIRE`: the capacity of `acc` (R54). -/
  maxWire : Capacity
  /-- `MAX_PAYLOAD`: the largest decoded payload, and the largest payload of `SND` (R54, R145). -/
  maxPayload : Capacity
deriving DecidableEq, Repr

/-- The parameters of the machine `State.reset`: those of the spec's own test vectors (`95_test_vectors.md`, opening
paragraph). R6 leaves all four OPEN. DESIGN CHOICE, unsafe (entry 6): no statement rests on these values. -/
def Config.resetParams : Params :=
  { reliable := false, maxRetries := 3, maxWire := .inf, maxPayload := .inf }

end Sys2Proof
end

