-- ==== Sys2Proof/Syntax.lean ====
section
/-! DEFINITION. The vocabulary of the block: the values its registers take, the inputs its environment presents, and `Instr`,
one constructor per row of `spec/opcode_table.json`. -/

namespace Sys2Proof

/-- The receive framer's states (R14). -/
inductive RxState where
  /-- `SCAN_FOR_START`: discard bytes until a start marker. -/
  | scanForStart
  /-- `ACCUMULATE_PAYLOAD`: copy bytes until `#`. -/
  | accumulatePayload
  /-- `READ_CHECKSUM`: take the two checksum characters. -/
  | readChecksum
  /-- `VALIDATE`: a complete frame is held (R111). -/
  | validate
deriving DecidableEq, Repr

/-- Whether a host command is in progress (R21). -/
inductive HostState where
  /-- `IDLE`: none is. -/
  | idle
  /-- `WAIT_AVAIL`: an `AVAILABLE` with `block = 1` waits for a packet. -/
  | waitAvail
  /-- `WAIT_ACK`: a `SND` waits for `+` or `-`. -/
  | waitAck
deriving DecidableEq, Repr

/-- The connection-fatal condition (R23). -/
inductive Fatal where
  /-- `NONE`: the connection is healthy. -/
  | none
  /-- `TRANSPORT_FAILURE`: a `LINKFAIL` occurred (R183). -/
  | transportFailure
  /-- `RETRY_EXHAUSTED`: the ack machine ran out of retries (R158). -/
  | retryExhausted
deriving DecidableEq, Repr

/-- The four errors of R180. -/
inductive RspError where
  /-- Code 1: an inbound frame fails the validity predicate (R181). -/
  | checksumMismatch
  /-- Code 2: `RCV` with no packet ready (R182). -/
  | protocolStateError
  /-- Code 3: the transport failed (R183). -/
  | transportFailure
  /-- Code 4: no acknowledgment within the retry bound (R184). -/
  | retryExhausted
deriving DecidableEq, Repr

/-- A response value (R35). -/
inductive Response where
  /-- `Done`. -/
  | done
  /-- `Bool(v)`; the source's success is `Bool(1)`. -/
  | bool (v : Bool)
  /-- `Packet(payload, notif)`. -/
  | packet (payload : Bytes) (notif : Bool)
  /-- `Error(code)`. -/
  | error (code : RspError)
deriving DecidableEq, Repr

/-- A token of a wire payload (R72). -/
inductive Token where
  /-- `Lit(v)`: one literal byte. -/
  | lit (v : Byte)
  /-- `Rep(c)`: a run-length pair with count byte `c`. -/
  | rep (c : Byte)
deriving DecidableEq, Repr

/-- The environment strobes, one-bit inputs without an encoding (R80). -/
inductive Strobe where
  /-- The transport's out-of-band interrupt indication (R171). -/
  | brkin
  /-- The acknowledgment timer (R159). -/
  | ackTimeout
  /-- The transport has failed or closed (R183). -/
  | linkfail
  /-- The start of a new connection (R200). -/
  | reset
deriving DecidableEq, Repr

/-- What the environment presents to the block in one step. The first three are the events of R8, the others present one
form to one of the block's own units (DESIGN CHOICE, safe, entry 3). -/
inductive Input where
  /-- The transport delivers one byte of the receive stream (R90). -/
  | rxByte (b : Byte)
  /-- The host issues a command word, with a payload beside it (R77). -/
  | command (word : Byte) (payload : Bytes)
  /-- An environment strobe is 1 for this step (R80). -/
  | strobe (line : Strobe)
  /-- One form of a wire payload at the payload decoder (R72). -/
  | wireForm (bytes : Bytes)
  /-- One character at the checksum reader (R75). -/
  | checksumChar (b : Byte)
  /-- One transmission at the transmitter (R42). -/
  | transmit (bytes : Bytes)
  /-- One response word, with a payload beside it, at the response port (R79). -/
  | response (word : Byte) (payload : Bytes)
deriving DecidableEq, Repr

/-- The rows of `spec/opcode_table.json`, in its order. -/
inductive Instr where
  /-- `RXB.BREAK_TAP` (R170). -/
  | rxbBreakTap
  /-- `RXB.START_PACKET` (R91). -/
  | rxbStartPacket
  /-- `RXB.START_NOTIFICATION` (R92). -/
  | rxbStartNotification
  /-- `RXB.ACK_PLUS` (R156). -/
  | rxbAckPlus
  /-- `RXB.ACK_MINUS` (R157). -/
  | rxbAckMinus
  /-- `RXB.DISCARD` (R93). -/
  | rxbDiscard (b : Byte)
  /-- `RXB.END_PAYLOAD` (R94). -/
  | rxbEndPayload
  /-- `RXB.PAYLOAD_BYTE` (R95). -/
  | rxbPayloadByte (b : Byte)
  /-- `RXB.CHECKSUM_HI` (R96). -/
  | rxbChecksumHi (b : Byte)
  /-- `RXB.CHECKSUM_LO` (R97). -/
  | rxbChecksumLo (b : Byte)
  /-- `RXB.FATAL_DISCARD` (R185). -/
  | rxbFatalDiscard (b : Byte)
  /-- `WP.ESCAPE_PAIR` (R72): `}` and the byte after it. -/
  | wpEscapePair (e : Byte)
  /-- `WP.RUNLENGTH_PAIR` (R72): `*` and its count byte. -/
  | wpRunlengthPair (c : Byte)
  /-- `WP.LITERAL` (R72). -/
  | wpLiteral (b : Byte)
  /-- `CK.DIGIT_0_7` (R75): the byte `0x30 + n`. -/
  | ckDigit0to7 (n : BitVec 3)
  /-- `CK.DIGIT_8_9` (R75): the byte `0x38 + n`. -/
  | ckDigit8to9 (n : BitVec 1)
  /-- `CK.LETTER_a` (R75): the byte 0x61. -/
  | ckLetterA
  /-- `CK.LETTER_b_c` (R75): the byte `0x62 + n`. -/
  | ckLetterBC (n : BitVec 1)
  /-- `CK.LETTER_d_e` (R75): the byte `0x64 + n`. -/
  | ckLetterDE (n : BitVec 1)
  /-- `CK.LETTER_f` (R75): the byte 0x66. -/
  | ckLetterF
  /-- `CK.INVALID` (R75): every other byte. -/
  | ckInvalid (b : Byte)
  /-- `AVAILABLE block` (R130). -/
  | available (block : Bool)
  /-- `RCV` (R131). -/
  | rcv
  /-- `SND payload notif` (R140). -/
  | snd (payload : Bytes) (notif : Bool)
  /-- `PENDING_BREAK` (R172). -/
  | pendingBreak
  /-- `CLEAR_BREAK` (R173). -/
  | clearBreak
  /-- `IS_RELIABLE` (R132). -/
  | isReliable
  /-- `SET_NOACK` (R165). -/
  | setNoack
  /-- `CMD.RESERVED` (R82): every other command word. -/
  | cmdReserved (w : Byte)
  /-- `BRKIN` (R171). -/
  | brkin
  /-- `ACK_TIMEOUT` (R159). -/
  | ackTimeout
  /-- `LINKFAIL` (R183). -/
  | linkfail
  /-- `RESET` (R200). -/
  | reset
  /-- `TX.ACK_PLUS` (R114). -/
  | txAckPlus
  /-- `TX.ACK_MINUS` (R115). -/
  | txAckMinus
  /-- `TX.FRAME` (R71). -/
  | txFrame (payload : Bytes) (notif : Bool)
  /-- `TX.ESCAPED_BYTE` (R70): the payload byte `b`, sent as an escape pair. -/
  | txEscapedByte (b : Byte)
  /-- `RESP.DONE` (R79). -/
  | respDone
  /-- `RESP.BOOL` (R79). -/
  | respBool (v : Bool)
  /-- `RESP.PACKET` (R79), the payload beside the word. -/
  | respPacket (payload : Bytes) (notif : Bool)
  /-- `RESP.ERROR` (R79). -/
  | respError (code : RspError)
deriving DecidableEq, Repr

end Sys2Proof
end

