-- ==== Sys2Proof/Machine/Operands.lean ====
section
/-! DEFINITION. The wire format as pure functions (`30_encoding.md`): the character set, the transmit-side functions, the
receive-side decoding functions and the words of the host port. -/

namespace Sys2Proof.Machine

/-! ### The character set (R60) -/

/-- `$`, the packet-start marker. The character codes are those of R60 (entry 132). -/
abbrev chDollar : Byte := 0x24
/-- `%`, the notification marker. -/
abbrev chPercent : Byte := 0x25
/-- `#`, the terminator. -/
abbrev chHash : Byte := 0x23
/-- `+`, the positive acknowledgment. -/
abbrev chPlus : Byte := 0x2b
/-- `-`, the negative acknowledgment. -/
abbrev chMinus : Byte := 0x2d
/-- `}`, the escape prefix. -/
abbrev chEscape : Byte := 0x7d
/-- `*`, the run-length prefix. -/
abbrev chStar : Byte := 0x2a
/-- 0x03, the BREAK byte (R64). -/
abbrev chBreak : Byte := 0x03
/-- 0x20, the XOR mask of an escape pair (R65). -/
abbrev escapeMask : Byte := 0x20
/-- 29, the bias of a run-length count (R66). -/
abbrev runBias : Nat := 29

/-! ### Transmit side -/

/-- `Sum8(s)` (R68): the sum of the bytes as natural numbers, mod 256. -/
def sum8 (s : Bytes) : Byte := BitVec.ofNat 8 (s.map BitVec.toNat).sum

/-- `HexChar(d)` (R69), lowercase (entry 106). -/
def hexChar (d : BitVec 4) : Byte :=
  if d.toNat ≤ 9 then BitVec.ofNat 8 (0x30 + d.toNat) else BitVec.ofNat 8 (0x61 + (d.toNat - 10))

/-- `Hex2(v)` (R69): the character of `v[7:4]`, then that of `v[3:0]`. -/
def hex2 (v : Byte) : Bytes := [hexChar (v.extractLsb' 4 4), hexChar (v.extractLsb' 0 4)]

/-- The four reserved bytes the transmitter escapes (R65). -/
def isReserved (b : Byte) : Bool := b == chDollar || b == chHash || b == chEscape || b == chStar

/-- The escape pair that stands for `b` (R65). -/
def escapePair (b : Byte) : Bytes := [chEscape, b ^^^ escapeMask]

/-- `EscByte(b)` (R70). -/
def escByte (b : Byte) : Bytes := if isReserved b then escapePair b else [b]

/-- `Esc(P)` (R70). -/
def esc (payload : Bytes) : Bytes := payload.flatMap escByte

/-- The start marker of a frame (R61, R62). -/
def marker (notif : Bool) : Byte := if notif then chPercent else chDollar

/-- `Frame(P, notif)` (R71): the checksum is taken over the payload, not over its escaped form (`90_conflicts.md` C4). -/
def frame (payload : Bytes) (notif : Bool) : Bytes :=
  marker notif :: (esc payload ++ chHash :: hex2 (sum8 payload))

/-! ### Receive side -/

/-- `HexVal(ch)` (R75); none is `invalid`. Uppercase letters are invalid (entry 106). -/
def hexVal (ch : Byte) : Option (BitVec 4) :=
  if 0x30 ≤ ch.toNat ∧ ch.toNat ≤ 0x39 then some (BitVec.ofNat 4 (ch.toNat - 0x30))
  else if 0x61 ≤ ch.toNat ∧ ch.toNat ≤ 0x66 then some (BitVec.ofNat 4 (ch.toNat - 0x61 + 10))
  else none

/-- One digit more of a checksum being assembled: `16 * hi + lo` (R75, R83). -/
def checksumDigit (hi : Byte) (lo : BitVec 4) : Byte := BitVec.ofNat 8 (16 * hi.toNat + lo.toNat)

/-- The checksum a frame carries (R75), when both its characters are valid. -/
def carriedChecksum (hi lo : Byte) : Option Byte :=
  match hexVal hi, hexVal lo with
  | some h, some l => some (checksumDigit (checksumDigit 0 h) l)
  | _, _ => none

/-- The token of an escape pair with second byte `e` (R72). -/
def escapeToken (e : Byte) : Token := .lit (e ^^^ escapeMask)

/-- `Tokenize(W)` (R72); none is `invalid` (a dangling prefix). -/
def tokenize : Bytes → Option (List Token)
  | [] => some []
  | [b] => if b = chEscape ∨ b = chStar then none else some [.lit b]
  | b :: c :: rest =>
    if b = chEscape then (tokenize rest).map (escapeToken c :: ·)
    else if b = chStar then (tokenize rest).map (.rep c :: ·)
    else (tokenize (c :: rest)).map (.lit b :: ·)

/-- What a token adds to the receive-side checksum (R73). -/
def tokenValue : Token → Nat
  | .lit v => v.toNat
  | .rep c => chStar.toNat + c.toNat

/-- `TokSum(T)` (R73): escapes undone, run-length pairs not expanded (entry 105). -/
def tokSum (tokens : List Token) : Byte := BitVec.ofNat 8 (tokens.map tokenValue).sum

/-- One round of `Expand` (R74): the output so far and one token; none is `invalid`. -/
def expandToken (out : Bytes) : Token → Option Bytes
  | .lit v => some (out ++ [v])
  | .rep c =>
    match out.getLast? with
    | none => none
    | some l => if c.toNat < runBias then none else some (out ++ List.replicate (c.toNat - runBias) l)

/-- `Expand` from the output `out` on (R74). -/
def expandFrom (out : Bytes) : List Token → Option Bytes
  | [] => some out
  | t :: rest =>
    match expandToken out t with
    | none => none
    | some out' => expandFrom out' rest

/-- `Expand(T)` (R74). -/
def expand (tokens : List Token) : Option Bytes := expandFrom [] tokens

/-! ### The words of the host port -/

/-- The error codes of R180. -/
def errorCode : RspError → Nat
  | .checksumMismatch => 1
  | .protocolStateError => 2
  | .transportFailure => 3
  | .retryExhausted => 4

/-- The error with a given code (R180). -/
def errorOfCode (n : Nat) : Option RspError :=
  if n = 1 then some .checksumMismatch
  else if n = 2 then some .protocolStateError
  else if n = 3 then some .transportFailure
  else if n = 4 then some .retryExhausted
  else none

/-- The response word of R79: `kind` in bits 1:0, `value` in bit 2, `code` in bits 6:4. -/
def responseWord : Response → Byte
  | .done => 0x00
  | .bool v => BitVec.ofNat 8 (1 + 4 * v.toNat)
  | .packet _ notif => BitVec.ofNat 8 (2 + 4 * notif.toNat)
  | .error code => BitVec.ofNat 8 (3 + 16 * errorCode code)

/-- The payload that travels beside a response word (R79). -/
def responsePayload : Response → Bytes
  | .packet payload _ => payload
  | _ => []

/-- The command word of R77: `op` in bits 3:0, `flag` in bit 4. -/
def commandWord (op : Nat) (flag : Bool) : Byte := BitVec.ofNat 8 (op + 16 * flag.toNat)

/-- Whether a command word is one of those R78 assigns, and so not reserved (R82). -/
def isAssignedCommand (w : Byte) : Bool :=
  decide (1 ≤ w.toNat ∧ w.toNat ≤ 7) || w == commandWord 1 true || w == commandWord 3 true

end Sys2Proof.Machine
end

