-- ==== Sys2Proof/WellFormed.lean ====
section
/-! DEFINITION. Which terms of `Instr` stand for a row of the opcode table: the operand checks that the row's mask, or the
rows tried before it, impose. -/

namespace Sys2Proof

open Sys2Proof.Machine

/-- The operand checks, context-free; what a row asks of the receive state is `rowSelected` in `Decode.lean`. -/
def Instr.wellFormed : Instr → Bool
  | .rxbBreakTap | .rxbStartPacket | .rxbStartNotification | .rxbAckPlus | .rxbAckMinus => true
  | .rxbDiscard b => b != chDollar && b != chPercent
  | .rxbEndPayload => true
  | .rxbPayloadByte b => b != chHash
  | .rxbChecksumHi _ | .rxbChecksumLo _ | .rxbFatalDiscard _ => true
  | .wpEscapePair _ | .wpRunlengthPair _ => true
  | .wpLiteral b => b != chEscape && b != chStar
  | .ckDigit0to7 _ | .ckDigit8to9 _ | .ckLetterA | .ckLetterBC _ | .ckLetterDE _ | .ckLetterF => true
  | .ckInvalid b => (hexVal b).isNone
  | .available _ | .rcv | .snd _ _ | .pendingBreak | .clearBreak | .isReliable | .setNoack => true
  | .cmdReserved w => !isAssignedCommand w
  | .brkin | .ackTimeout | .linkfail | .reset => true
  | .txAckPlus | .txAckMinus | .txFrame _ _ => true
  | .txEscapedByte b => isReserved b
  | .respDone | .respBool _ | .respPacket _ _ | .respError _ => true

end Sys2Proof
end

