-- ==== Sys2Proof/Decode.lean ====
section
/-! DEFINITION. From what the environment presents to the rows of the opcode table, and back: the decoder (total, rejecting
by name), the encoder, and the reading of a bare table word. The masks and values are those of `spec/opcode_table.json`. -/

namespace Sys2Proof

open Sys2Proof.Machine

/-- What the classification of a received byte depends on (R76): a byte is one row or another by the receive state. -/
structure RxContext where
  /-- `fatal != NONE`. -/
  broken : Bool
  /-- `rx_state`. -/
  rxState : RxState
  /-- `ck_cnt = 1`. -/
  ckCnt : Bool
  /-- `host_state = WAIT_ACK`. -/
  waitAck : Bool
deriving DecidableEq, Repr

/-- Why an input is no row of the table. -/
inductive DecodeError where
  /-- `rx_ready = 0`: the byte stays with the transport (R32, R90, R190). -/
  | rxNotReady
  /-- Not exactly one form of a wire payload: no byte, a dangling prefix, or more than one form (R72). -/
  | notAWireForm
  /-- Neither an acknowledgment, nor an escape pair of a reserved byte, nor a frame (R42). -/
  | notATransmission
  /-- No response word of R79, or an error word with a code that R180 does not name. -/
  | notAResponseWord
deriving DecidableEq, Repr

/-! ### The decoder -/

/-- The row that classifies a received byte (R76; the table's `RXB` rows but `RXB.BREAK_TAP`). -/
def decodeByte (c : RxContext) (b : Byte) : Except DecodeError Instr :=
  if c.broken then .ok (.rxbFatalDiscard b)
  else
    match c.rxState with
    | .scanForStart =>
      if b = chDollar then .ok .rxbStartPacket
      else if b = chPercent then .ok .rxbStartNotification
      else if b = chPlus ∧ c.waitAck = true then .ok .rxbAckPlus
      else if b = chMinus ∧ c.waitAck = true then .ok .rxbAckMinus
      else .ok (.rxbDiscard b)
    | .accumulatePayload => if b = chHash then .ok .rxbEndPayload else .ok (.rxbPayloadByte b)
    | .readChecksum => if c.ckCnt then .ok (.rxbChecksumLo b) else .ok (.rxbChecksumHi b)
    | .validate => .error .rxNotReady

/-- The BREAK tap's row, applied before the classifying row to every byte 0x03 accepted while `fatal = NONE` (R90, R170). -/
def decodeTap (c : RxContext) (b : Byte) : List Instr :=
  if c.broken = false ∧ c.rxState ≠ .validate ∧ b = chBreak then [.rxbBreakTap] else []

/-- One form of a wire payload (R72). -/
def decodeWireForm : Bytes → Except DecodeError Instr
  | [b] => if b = chEscape ∨ b = chStar then .error .notAWireForm else .ok (.wpLiteral b)
  | [b, c] =>
    if b = chEscape then .ok (.wpEscapePair c)
    else if b = chStar then .ok (.wpRunlengthPair c)
    else .error .notAWireForm
  | _ => .error .notAWireForm

/-- A whole wire payload cut into its rows; none where a prefix dangles (R72). -/
def decodeWirePayload : Bytes → Option (List Instr)
  | [] => some []
  | [b] => if b = chEscape ∨ b = chStar then none else some [.wpLiteral b]
  | b :: c :: rest =>
    if b = chEscape then (decodeWirePayload rest).map (.wpEscapePair c :: ·)
    else if b = chStar then (decodeWirePayload rest).map (.wpRunlengthPair c :: ·)
    else (decodeWirePayload (c :: rest)).map (.wpLiteral b :: ·)

/-- The class of a checksum character (R75). -/
def decodeChecksumChar (b : Byte) : Instr :=
  if b &&& 0xf8 = 0x30 then .ckDigit0to7 (b.extractLsb' 0 3)
  else if b &&& 0xfe = 0x38 then .ckDigit8to9 (b.extractLsb' 0 1)
  else if b = 0x61 then .ckLetterA
  else if b &&& 0xfe = 0x62 then .ckLetterBC (b.extractLsb' 0 1)
  else if b &&& 0xfe = 0x64 then .ckLetterDE (b.extractLsb' 0 1)
  else if b = 0x66 then .ckLetterF
  else .ckInvalid b

/-- A host command (R77, R78, R82). The payload is read for `SND` alone (entry 18). -/
def decodeCommand (w : Byte) (payload : Bytes) : Instr :=
  if w &&& 0xef = 0x01 then .available (w.getLsbD 4)
  else if w = 0x02 then .rcv
  else if w &&& 0xef = 0x03 then .snd payload (w.getLsbD 4)
  else if w = 0x04 then .pendingBreak
  else if w = 0x05 then .clearBreak
  else if w = 0x06 then .isReliable
  else if w = 0x07 then .setNoack
  else .cmdReserved w

/-- A strobe (R80). -/
def decodeStrobe : Strobe → Instr
  | .brkin => .brkin
  | .ackTimeout => .ackTimeout
  | .linkfail => .linkfail
  | .reset => .reset

/-- The payload and the kind of a frame, when the bytes are `Frame(P, notif)` (R71). -/
def decodeFrame : Bytes → Option (Bytes × Bool)
  | [] => none
  | m :: rest =>
    match tokenize (rest.takeWhile (· != chHash)) with
    | none => none
    | some tokens =>
      match expand tokens with
      | none => none
      | some payload =>
        if frame payload (m == chPercent) = m :: rest then some (payload, m == chPercent) else none

/-- A transmission (R42, R63, R65, R71). -/
def decodeTransmission (bytes : Bytes) : Except DecodeError Instr :=
  match bytes with
  | [b] =>
    if b = chPlus then .ok .txAckPlus else if b = chMinus then .ok .txAckMinus else .error .notATransmission
  | [p, e] =>
    if p = chEscape ∧ isReserved (e ^^^ escapeMask) = true then .ok (.txEscapedByte (e ^^^ escapeMask))
    else .error .notATransmission
  | _ =>
    match decodeFrame bytes with
    | some (payload, notif) => .ok (.txFrame payload notif)
    | none => .error .notATransmission

/-- A response word (R79). -/
def decodeResponse (w : Byte) (payload : Bytes) : Except DecodeError Instr :=
  if w = 0x00 then .ok .respDone
  else if w &&& 0xfb = 0x01 then .ok (.respBool (w.getLsbD 2))
  else if w &&& 0xfb = 0x02 then .ok (.respPacket payload (w.getLsbD 2))
  else if w &&& 0x8f = 0x03 then
    match errorOfCode (w.toNat / 16) with
    | some code => .ok (.respError code)
    | none => .error .notAResponseWord
  else .error .notAResponseWord

/-- The rows an input stands for: one, or two where the BREAK tap applies in addition (entry 17). -/
def decode (c : RxContext) : Input → Except DecodeError (List Instr)
  | .rxByte b =>
    match decodeByte c b with
    | .ok i => .ok (decodeTap c b ++ [i])
    | .error e => .error e
  | .command w payload => .ok [decodeCommand w payload]
  | .strobe line => .ok [decodeStrobe line]
  | .wireForm bytes =>
    match decodeWireForm bytes with
    | .ok i => .ok [i]
    | .error e => .error e
  | .checksumChar b => .ok [decodeChecksumChar b]
  | .transmit bytes =>
    match decodeTransmission bytes with
    | .ok i => .ok [i]
    | .error e => .error e
  | .response w payload =>
    match decodeResponse w payload with
    | .ok i => .ok [i]
    | .error e => .error e

/-- Whether the receive state is the one in which a row applies: the `context` column of the table's `RXB` rows, which is
the Event line of each row's rule. The other rows apply in every receive state. -/
def rowSelected (c : RxContext) : Instr → Bool
  | .rxbBreakTap => !c.broken && c.rxState != .validate
  | .rxbStartPacket | .rxbStartNotification => !c.broken && c.rxState == .scanForStart
  | .rxbAckPlus | .rxbAckMinus => !c.broken && c.rxState == .scanForStart && c.waitAck
  | .rxbDiscard b =>
    !c.broken && c.rxState == .scanForStart && b != chDollar && b != chPercent &&
      !((b == chPlus || b == chMinus) && c.waitAck)
  | .rxbEndPayload => !c.broken && c.rxState == .accumulatePayload
  | .rxbPayloadByte b => !c.broken && c.rxState == .accumulatePayload && b != chHash
  | .rxbChecksumHi _ => !c.broken && c.rxState == .readChecksum && !c.ckCnt
  | .rxbChecksumLo _ => !c.broken && c.rxState == .readChecksum && c.ckCnt
  | .rxbFatalDiscard _ => c.broken
  | .wpEscapePair _ | .wpRunlengthPair _ | .wpLiteral _ => true
  | .ckDigit0to7 _ | .ckDigit8to9 _ | .ckLetterA | .ckLetterBC _ | .ckLetterDE _ | .ckLetterF | .ckInvalid _ => true
  | .available _ | .rcv | .snd _ _ | .pendingBreak | .clearBreak | .isReliable | .setNoack | .cmdReserved _ => true
  | .brkin | .ackTimeout | .linkfail | .reset => true
  | .txAckPlus | .txAckMinus | .txFrame _ _ | .txEscapedByte _ => true
  | .respDone | .respBool _ | .respPacket _ _ | .respError _ => true

/-! ### The encoder -/

/-- The character of a checksum digit `d` (R69). -/
def checksumChar (d : Nat) : Byte := hexChar (BitVec.ofNat 4 d)

/-- What the environment presents for a row: the row's own bits, written from the same table. -/
def encode : Instr → Input
  | .rxbBreakTap => .rxByte chBreak
  | .rxbStartPacket => .rxByte chDollar
  | .rxbStartNotification => .rxByte chPercent
  | .rxbAckPlus => .rxByte chPlus
  | .rxbAckMinus => .rxByte chMinus
  | .rxbDiscard b => .rxByte b
  | .rxbEndPayload => .rxByte chHash
  | .rxbPayloadByte b => .rxByte b
  | .rxbChecksumHi b => .rxByte b
  | .rxbChecksumLo b => .rxByte b
  | .rxbFatalDiscard b => .rxByte b
  | .wpEscapePair e => .wireForm [chEscape, e]
  | .wpRunlengthPair c => .wireForm [chStar, c]
  | .wpLiteral b => .wireForm [b]
  | .ckDigit0to7 n => .checksumChar (checksumChar n.toNat)
  | .ckDigit8to9 n => .checksumChar (checksumChar (8 + n.toNat))
  | .ckLetterA => .checksumChar (checksumChar 10)
  | .ckLetterBC n => .checksumChar (checksumChar (11 + n.toNat))
  | .ckLetterDE n => .checksumChar (checksumChar (13 + n.toNat))
  | .ckLetterF => .checksumChar (checksumChar 15)
  | .ckInvalid b => .checksumChar b
  | .available block => .command (commandWord 1 block) []
  | .rcv => .command (commandWord 2 false) []
  | .snd payload notif => .command (commandWord 3 notif) payload
  | .pendingBreak => .command (commandWord 4 false) []
  | .clearBreak => .command (commandWord 5 false) []
  | .isReliable => .command (commandWord 6 false) []
  | .setNoack => .command (commandWord 7 false) []
  | .cmdReserved w => .command w []
  | .brkin => .strobe .brkin
  | .ackTimeout => .strobe .ackTimeout
  | .linkfail => .strobe .linkfail
  | .reset => .strobe .reset
  | .txAckPlus => .transmit [chPlus]
  | .txAckMinus => .transmit [chMinus]
  | .txFrame payload notif => .transmit (frame payload notif)
  | .txEscapedByte b => .transmit (escapePair b)
  | .respDone => .response (responseWord .done) []
  | .respBool v => .response (responseWord (.bool v)) []
  | .respPacket payload notif => .response (responseWord (.packet payload notif)) payload
  | .respError code => .response (responseWord (.error code)) []

/-! ### Bare table words

A word of the opcode table does not say at which port it stands: 0x2b is `RXB.ACK_PLUS` on the receive stream and
`TX.ACK_PLUS` on the transmit stream. A bare word is read by the table's own order: the rows with fixed bits first, in the
order in which they stand, then the first row without fixed bits, `RXB.DISCARD`. DESIGN CHOICE, safe (entry 5). -/

/-- The bytes of a table word of `nbits` bits, bit 0 the least significant bit of the first byte. -/
def tableBytes (nbits w : Nat) : Bytes :=
  (List.range (max 1 ((nbits + 7) / 8))).map fun k => BitVec.ofNat 8 (w / 2 ^ (8 * k))

/-- The first row of the table that a byte (and the byte after it) matches. -/
def decodeTableByte (b next : Byte) : Instr :=
  if b = chBreak then .rxbBreakTap
  else if b = chDollar then .rxbStartPacket
  else if b = chPercent then .rxbStartNotification
  else if b = chPlus then .rxbAckPlus
  else if b = chMinus then .rxbAckMinus
  else if b = chHash then .rxbEndPayload
  else if b = chEscape then .wpEscapePair next
  else if b = chStar then .wpRunlengthPair next
  else
    match decodeChecksumChar b with
    | .ckInvalid _ =>
      if isAssignedCommand b then decodeCommand b []
      else
        match decodeResponse b [] with
        | .ok i => i
        | .error _ => .rxbDiscard b
    | i => i

/-- The row a bare table word is read as. A second byte stands only behind a two-byte form of a wire payload. -/
def decodeTableWord (nbits w : Nat) : Option Instr :=
  match tableBytes nbits w with
  | [b] => some (decodeTableByte b 0)
  | [b, next] => if b = chEscape ∨ b = chStar ∨ next = 0 then some (decodeTableByte b next) else none
  | _ => none

end Sys2Proof
end

