-- ==== Sys2Proof/Machine/State.lean ====
section
/-! DEFINITION. The state of the block (`10_state.md` R10), its outputs and observations, the reasons a step can stop, and
the state after `RESET` (R37). -/

namespace Sys2Proof.Machine

/-- Faults: none. "The spec contains no behaviour whose treatment is `fault` or `stuck`" (`93_implementation_defined.md`;
entry 22). -/
inductive Fault where
deriving DecidableEq, Repr

/-- Refusals: the events to which the spec gives no step in the state concerned (R190; entry 12). -/
inductive Refusal where
  /-- Raised by an arm of `exec` that has no meaning yet. Safe. -/
  | notModelled (mnemonic : String)
  /-- Raised by every host command issued while another is in progress (R34, R190, U5). Safe: nothing is claimed of it. -/
  | hostBusy
  /-- Raised by `CMD.RESERVED` (R82, R190, U5). Safe. -/
  | reservedCommand
  /-- Raised by `SND` of a payload longer than `MAX_PAYLOAD` (R145, R190, U6). Safe. -/
  | oversizePayload
  /-- Raised by `RXB` while `rx_ready = 0`: the byte stays with the transport (R32, R90, R190, U7). Safe. -/
  | rxNotReady
  /-- Raised by `ACK_TIMEOUT` while no acknowledgment is awaited: the timer does not run (R159, R190). Safe. -/
  | ackTimerNotRunning
  /-- Raised by a row of the receive framer run in a receive state in which R76 selects another row for its byte: the rule's
  Event is not this event. `step` never meets it, because it runs the row that is selected (entry 13). Safe. -/
  | rowNotSelected
  /-- Raised by `step` for an input that is no row of the table. Safe. -/
  | notAnInstruction (reason : DecodeError)
deriving DecidableEq, Repr

/-- The values local to the validation procedure, on which the rows `WP.*` and `CK.*` act when they are run one at a time.
The MODEL's own (entry 4): `TryValidate` computes them anew inside one step, and no event reads them. -/
structure Work where
  /-- The tokens read so far: `T` of R72. -/
  tokens : List Token
  /-- Their sum so far: `TokSum` of R73. -/
  sum : Byte
  /-- The output so far: `out` of R74, none once it is `invalid`. -/
  out : Option Bytes
  /-- The checksum assembled so far (R75), none once a character was `invalid`. -/
  carried : Option Byte
deriving DecidableEq, Repr

/-- The working values at the start of a validation. -/
def Work.fresh : Work := { tokens := [], sum := 0, out := some [], carried := some 0 }

/-- The state. The first group is R10's table whole; then the outputs and observations (R24, R33), the parameters (R6) and
the model's own fields. -/
structure State where
  /-- `rx_state` (R14). -/
  rxState : RxState
  /-- `ck_cnt` (R15). -/
  ckCnt : Bool
  /-- `rx_notif` (R13). -/
  rxNotif : Bool
  /-- `acc` (R11). -/
  acc : Bytes
  /-- `acc_ovf` (R12). -/
  accOvf : Bool
  /-- `ck_hi` (R16). -/
  ckHi : Byte
  /-- `ck_lo` (R16). -/
  ckLo : Byte
  /-- `pkt_valid` (R17). -/
  pktValid : Bool
  /-- `pkt_payload` (R17). -/
  pktPayload : Bytes
  /-- `pkt_notif` (R17). -/
  pktNotif : Bool
  /-- `noack` (R18). -/
  noack : Bool
  /-- `brk` (R19). -/
  brk : Bool
  /-- `pend` (R20). -/
  pend : Option Bytes
  /-- `retry_cnt` (R20). -/
  retryCnt : Nat
  /-- `host_state` (R21). -/
  hostState : HostState
  /-- `resp` (R22). -/
  resp : Option Response
  /-- `fatal` (R23). -/
  fatal : Fatal
  /-- `tx_out` (R24): an observation; `RESET` leaves it. -/
  txOut : Bytes
  /-- `brk_clr` (R33, R173): 1 after the step that pulsed it, 0 after every other step (entry 8). -/
  brkClr : Bool
  /-- The parameters (R6): no step writes them (entry 6). -/
  params : Params
  /-- The MODEL's: the errors raised so far, an observation like `tx_out` (entry 9). -/
  raised : List RspError
  /-- The MODEL's: the working values of the rows `WP.*` and `CK.*` (entry 4). -/
  work : Work
  /-- The MODEL's: what the environment presents, in its order; `step` takes the first (entry 1). -/
  inputs : List Input
deriving DecidableEq, Repr

/-- The registers of R10 at their reset values (R37), with given parameters, and with nothing emitted, raised or presented
yet. -/
def State.start (p : Params) : State :=
  { rxState := .scanForStart, ckCnt := false, rxNotif := false, acc := [], accOvf := false, ckHi := 0x00, ckLo := 0x00,
    pktValid := false, pktPayload := [], pktNotif := false, noack := false, brk := false, pend := none, retryCnt := 0,
    hostState := .idle, resp := none, fatal := .none, txOut := [], brkClr := false, params := p, raised := [],
    work := Work.fresh, inputs := [] }

/-- The machine right after reset (R37), with the parameters of entry 6. -/
def State.reset : State := State.start Config.resetParams

end Sys2Proof.Machine
end

