-- ==== Sys2Proof/Machine/Flags.lean ====
section
/-! DEFINITION. Everything the block computes from its state without changing it: the capacities, `rx_ready`, the context of
a received byte, the validity predicate and the status word. -/

namespace Sys2Proof.Machine

/-- Whether `n` bytes fit: `n <= cap` (R54). -/
def capAdmits : Capacity → Nat → Bool
  | .inf, _ => true
  | .upTo m, n => decide (n ≤ m)

/-- Whether a buffer of `n` bytes takes one more: `n < cap` (R95). -/
def capHasRoom : Capacity → Nat → Bool
  | .inf, _ => true
  | .upTo m, n => decide (n < m)

/-- `fatal != NONE`: the connection is considered broken (R185). -/
def broken (s : State) : Bool := s.fatal != .none

/-- `rx_ready` (R32). -/
def rxReady (s : State) : Bool := s.fatal != .none || s.rxState != .validate

/-- What classifies a byte received in the state (R76). -/
def rxContext (s : State) : RxContext :=
  { broken := broken s, rxState := s.rxState, ckCnt := s.ckCnt, waitAck := s.hostState == .waitAck }

/-- The payload `P` of the frame in `acc`, `ck_hi`, `ck_lo` when `Valid()` is true, by the six items of R112 in their order;
none when one of them fails. -/
def validPayload (s : State) : Option Bytes :=
  if s.accOvf then none
  else
    match carriedChecksum s.ckHi s.ckLo with
    | none => none
    | some carried =>
      match tokenize s.acc with
      | none => none
      | some tokens =>
        if tokSum tokens = carried then
          match expand tokens with
          | none => none
          | some payload => if capAdmits s.params.maxPayload payload.length then some payload else none
        else none

/-- Whether an acknowledgment is due for the frame being validated: a packet frame outside no-ack mode (R114, R115). -/
def ackDue (s : State) : Bool := !s.rxNotif && !s.noack

/-- The `fatal` field of the status word (R27). -/
def fatalCode : Fatal → BitVec 3
  | .none => 0
  | .transportFailure => 3
  | .retryExhausted => 4

/-- The `host_state` field of the status word (R27). -/
def hostStateCode : HostState → BitVec 2
  | .idle => 0
  | .waitAvail => 1
  | .waitAck => 2

/-- The `rx_state` field of the status word (R27). -/
def rxStateCode : RxState → BitVec 2
  | .scanForStart => 0
  | .accumulatePayload => 1
  | .readChecksum => 2
  | .validate => 3

/-- The status word (R27), bit 15 first. -/
def statusWord (s : State) : StatusWord :=
  0#1 ++ BitVec.ofBool (rxReady s) ++ BitVec.ofBool s.rxNotif ++ BitVec.ofBool s.accOvf ++ BitVec.ofBool s.ckCnt ++
    rxStateCode s.rxState ++ hostStateCode s.hostState ++ fatalCode s.fatal ++ BitVec.ofBool s.brk ++
    BitVec.ofBool s.noack ++ BitVec.ofBool s.pktNotif ++ BitVec.ofBool s.pktValid

end Sys2Proof.Machine
end

