-- ==== Sys2Proof/Machine/Ops.lean ====
section
/-! DEFINITION. The named operations the meanings share: `Emit`, `Respond`, `raise`, the validation procedure, the BREAK tap,
the negative acknowledgment event, `RESET`, the conditions under which an event has a step, and the taking of an input. -/

namespace Sys2Proof.Machine

/-! ### Primitives (`00_scope.md` R7) -/

/-- `Emit(bytes)` (R31): nothing is emitted while `fatal != NONE`. -/
def emit (bytes : Bytes) (s : State) : State :=
  if broken s then s else { s with txOut := s.txOut ++ bytes }

/-- `Respond(v)` (R22). -/
def respond (v : Response) (s : State) : State := { s with resp := some v, hostState := .idle }

/-- A connection-fatal error is recorded; the first one is kept (R23; entry 11). -/
def setFatal (f : Fatal) (s : State) : State := if broken s then s else { s with fatal := f }

/-- `raise <Error>` (R180): what each error records in the state. Raising never aborts the step; nothing is saved for a
return (R188). The record `raised` is the model's own (entry 9). -/
def raiseError (e : RspError) (s : State) : State :=
  let s' := { s with raised := s.raised ++ [e] }
  match e with
  | .checksumMismatch => s'
  | .protocolStateError => respond (.error .protocolStateError) s'
  | .transportFailure => setFatal .transportFailure s'
  | .retryExhausted => setFatal .retryExhausted s'

/-- The return from a fatal error, which is the start of a new connection and nothing else (R189, R200): every register of
R10 takes its reset value; `tx_out`, the parameters and the observation `raised` are unchanged, and the events still to come
are no state of the block. -/
def resetRegisters (s : State) : State :=
  { State.start s.params with txOut := s.txOut, raised := s.raised, brkClr := s.brkClr, inputs := s.inputs }

/-! ### Validation (`41_validate_decode.md`) -/

/-- The acknowledgment of an inbound frame, when one is due (R114, R115, R116, R117). -/
def emitAck (b : Byte) (s : State) : State := if ackDue s then emit [b] s else s

/-- A waiting `AVAILABLE` completes (R123). -/
def completeAvailable (s : State) : State := if s.hostState = .waitAvail then respond (.bool true) s else s

/-- `Deliver()` (R113, R114, R123): the slot, then the `+`, then a waiting `AVAILABLE` (R187 item 3). -/
def deliver (payload : Bytes) (s : State) : State :=
  completeAvailable
    (emitAck chPlus { s with pktValid := true, pktPayload := payload, pktNotif := s.rxNotif })

/-- `Reject()` (R115). -/
def reject (s : State) : State := emitAck chMinus (raiseError .checksumMismatch s)

/-- `Cleanup()` (R122). -/
def cleanup (s : State) : State :=
  { s with acc := [], accOvf := false, rxNotif := false, ckHi := 0x00, ckLo := 0x00, rxState := .scanForStart }

/-- `TryValidate()` (R110, R111). -/
def tryValidate (s : State) : State :=
  if s.rxState ≠ .validate then s
  else if s.pktValid = true then s
  else
    match validPayload s with
    | some payload => cleanup (deliver payload s)
    | none => cleanup (reject s)

/-! ### The acknowledgment machine (`44_ack_noack.md`) -/

/-- `NegativeEvent()` (R158). In the states that call it `pend` is a frame (R29 item 1); elsewhere it emits nothing
(entry 10). -/
def negativeEvent (s : State) : State :=
  if s.retryCnt < s.params.maxRetries then
    { emit (s.pend.getD []) s with retryCnt := s.retryCnt + 1 }
  else
    respond (.bool false) { raiseError .retryExhausted s with pend := none, retryCnt := 0 }

/-! ### The working values of the validation procedure -/

/-- One token more at the payload decoder: read (R72), summed (R73) and expanded (R74). -/
def pushToken (t : Token) (w : Work) : Work :=
  { w with
    tokens := w.tokens ++ [t]
    sum := BitVec.ofNat 8 (w.sum.toNat + tokenValue t)
    out := match w.out with
      | none => none
      | some out => expandToken out t }

/-- One checksum character more, of the given value or invalid (R75). -/
def pushChecksumChar (v : Option (BitVec 4)) (w : Work) : Work :=
  { w with
    carried := match w.carried, v with
      | some c, some d => some (checksumDigit c d)
      | _, _ => none }

/-! ### Under which condition an event has a step -/

/-- A row of the receive framer has its step in the receive state in which R76 selects it; a byte that is not accepted has
none (R90), and in the other states its byte is another row (entry 13). -/
def onRow (i : Instr) (s t : State) : Host.Outcome State Fault Refusal :=
  if rowSelected (rxContext s) i then .next t
  else if rxReady s then .refused .rowNotSelected
  else .refused .rxNotReady

/-- A host command has its step when none is in progress, and issuing it clears `resp` (R22, R34). -/
def onCommand (s : State) (effect : State → State) : Host.Outcome State Fault Refusal :=
  if s.hostState = .idle then .next (effect { s with resp := none }) else .refused .hostBusy

/-! ### Taking an input -/

/-- The state in which the rows of the next input run: the input is taken, and the one-step pulse `brk_clr` of the step
before is over (R33; entry 8). -/
def taken (rest : List Input) (s : State) : State := { s with inputs := rest, brkClr := false }

/-- The receive state in which R76 selects a row, for a row of the receive framer. Used to present a bare table word
(entry 5). -/
def selectRow (i : Instr) (s : State) : State :=
  match i with
  | .rxbBreakTap =>
    { s with fatal := .none, rxState := if s.rxState = .validate then .scanForStart else s.rxState }
  | .rxbStartPacket | .rxbStartNotification => { s with fatal := .none, rxState := .scanForStart }
  | .rxbAckPlus | .rxbAckMinus => { s with fatal := .none, rxState := .scanForStart, hostState := .waitAck }
  | .rxbDiscard b =>
    { s with
      fatal := .none
      rxState := .scanForStart
      hostState := if (b = chPlus ∨ b = chMinus) ∧ s.hostState = .waitAck then .idle else s.hostState }
  | .rxbEndPayload | .rxbPayloadByte _ => { s with fatal := .none, rxState := .accumulatePayload }
  | .rxbChecksumHi _ => { s with fatal := .none, rxState := .readChecksum, ckCnt := false }
  | .rxbChecksumLo _ => { s with fatal := .none, rxState := .readChecksum, ckCnt := true }
  | .rxbFatalDiscard _ => { s with fatal := if s.fatal = .none then .transportFailure else s.fatal }
  | _ => s

/-- Present a row as the next input: its bits at the head of `inputs`, and the receive state that its classification
needs. -/
def present (i : Instr) (s : State) : State :=
  let s' := selectRow i s
  { s' with inputs := encode i :: s'.inputs }

end Sys2Proof.Machine
end

