-- ==== Sys2Proof/Machine/HostCommand.lean ====
section
/-! DEFINITION. The host commands (`42_host_receive.md`, `43_tx_framer.md`, `44_ack_noack.md`, `45_break.md`), one meaning
per row. Each has its step when no command is in progress (`onCommand`). -/

namespace Sys2Proof.Machine

/-- `AVAILABLE block` (R130). -/
def execAvailable (block : Bool) (s : State) : Host.Outcome State Fault Refusal :=
  onCommand s fun s =>
    if s.pktValid = true then respond (.bool true) s
    else if block = false ∨ broken s = true then respond (.bool false) s
    else { s with hostState := .waitAvail }

/-- `RCV` (R131): the response is formed from the old packet, the slot is emptied, then a held frame is validated (R187
item 4). -/
def execRcv (s : State) : Host.Outcome State Fault Refusal :=
  onCommand s fun s =>
    if s.pktValid = true then
      tryValidate
        { respond (.packet s.pktPayload s.pktNotif) s with pktValid := false, pktPayload := [], pktNotif := false }
    else raiseError .protocolStateError s

/-- `SND payload notif` (R140 to R145). -/
def execSnd (payload : Bytes) (notif : Bool) (s : State) : Host.Outcome State Fault Refusal :=
  if capAdmits s.params.maxPayload payload.length then
    onCommand s fun s =>
      if broken s then respond (.bool false) s
      else if notif || s.noack then respond (.bool true) (emit (frame payload notif) s)
      else
        { emit (frame payload notif) s with
          pend := some (frame payload notif), retryCnt := 0, hostState := .waitAck }
  else .refused .oversizePayload

/-- `PENDING_BREAK` (R172): a poll does not clear the flag. -/
def execPendingBreak (s : State) : Host.Outcome State Fault Refusal :=
  onCommand s fun s => respond (.bool s.brk) s

/-- `CLEAR_BREAK` (R173), with the pulse `brk_clr` to the transport. -/
def execClearBreak (s : State) : Host.Outcome State Fault Refusal :=
  onCommand s fun s => respond .done { s with brk := false, brkClr := true }

/-- `IS_RELIABLE` (R132). -/
def execIsReliable (s : State) : Host.Outcome State Fault Refusal :=
  onCommand s fun s => respond (.bool s.params.reliable) s

/-- `SET_NOACK` (R165). -/
def execSetNoack (s : State) : Host.Outcome State Fault Refusal :=
  onCommand s fun s => respond .done { s with noack := true, pend := none }

/-- `CMD.RESERVED`: refused in every state (R82, R190). -/
def execCmdReserved (_w : Byte) (_s : State) : Host.Outcome State Fault Refusal :=
  .refused .reservedCommand

end Sys2Proof.Machine
end

