-- ==== Sys2Proof/Machine/Responses.lean ====
section
/-! DEFINITION. The rows of the response port (`30_encoding.md` R79), one meaning per row: `Respond(v)`
(`10_state.md` R22). -/

namespace Sys2Proof.Machine

/-- `RESP.DONE`: `Respond(Done)` (R22, R79). -/
def execRespDone (s : State) : Host.Outcome State Fault Refusal :=
  .next (respond .done s)

/-- `RESP.BOOL`: `Respond(Bool(v))` (R22, R79). -/
def execRespBool (v : Bool) (s : State) : Host.Outcome State Fault Refusal :=
  .next (respond (.bool v) s)

/-- `RESP.PACKET`: `Respond(Packet(payload, notif))` (R22, R79). -/
def execRespPacket (payload : Bytes) (notif : Bool) (s : State) : Host.Outcome State Fault Refusal :=
  .next (respond (.packet payload notif) s)

/-- `RESP.ERROR`: `Respond(Error(code))` (R22, R79). -/
def execRespError (code : RspError) (s : State) : Host.Outcome State Fault Refusal :=
  .next (respond (.error code) s)

end Sys2Proof.Machine
end

