-- ==== Sys2Proof/Machine/Rxb.lean ====
section
/-! DEFINITION. The event `RXB b`, one meaning per byte class (`40_rx_framer.md`, `44_ack_noack.md`, `45_break.md`,
`60_exceptions.md`). Each has its step in the receive state its rule's Event line names (`onRow`). -/

namespace Sys2Proof.Machine

/-- `RXB.BREAK_TAP`: the tap sees 0x03 in every receive state and takes nothing from the stream (R170). The byte's own row
runs after it in the same step (R90, R187 item 1). -/
def execRxbBreakTap (s : State) : Host.Outcome State Fault Refusal :=
  onRow .rxbBreakTap s { s with brk := true }

/-- `RXB.START_PACKET` (R91). -/
def execRxbStartPacket (s : State) : Host.Outcome State Fault Refusal :=
  onRow .rxbStartPacket s { s with rxNotif := false, acc := [], accOvf := false, rxState := .accumulatePayload }

/-- `RXB.START_NOTIFICATION` (R92). -/
def execRxbStartNotification (s : State) : Host.Outcome State Fault Refusal :=
  onRow .rxbStartNotification s { s with rxNotif := true, acc := [], accOvf := false, rxState := .accumulatePayload }

/-- `RXB.ACK_PLUS`: the waiting `SND` completes (R156). -/
def execRxbAckPlus (s : State) : Host.Outcome State Fault Refusal :=
  onRow .rxbAckPlus s (respond (.bool true) { s with pend := none, retryCnt := 0 })

/-- `RXB.ACK_MINUS` (R157). -/
def execRxbAckMinus (s : State) : Host.Outcome State Fault Refusal :=
  onRow .rxbAckMinus s (negativeEvent s)

/-- `RXB.DISCARD`: no effect (R93, R160). -/
def execRxbDiscard (b : Byte) (s : State) : Host.Outcome State Fault Refusal :=
  onRow (.rxbDiscard b) s s

/-- `RXB.END_PAYLOAD` (R94). -/
def execRxbEndPayload (s : State) : Host.Outcome State Fault Refusal :=
  onRow .rxbEndPayload s { s with rxState := .readChecksum, ckCnt := false }

/-- `RXB.PAYLOAD_BYTE` (R95): stored, or dropped when `acc` is full. -/
def execRxbPayloadByte (b : Byte) (s : State) : Host.Outcome State Fault Refusal :=
  onRow (.rxbPayloadByte b) s
    (if capHasRoom s.params.maxWire s.acc.length then { s with acc := s.acc ++ [b] } else { s with accOvf := true })

/-- `RXB.CHECKSUM_HI` (R96). -/
def execRxbChecksumHi (b : Byte) (s : State) : Host.Outcome State Fault Refusal :=
  onRow (.rxbChecksumHi b) s { s with ckHi := b, ckCnt := true }

/-- `RXB.CHECKSUM_LO` (R97), which ends the frame: it is validated in this step, or held. -/
def execRxbChecksumLo (b : Byte) (s : State) : Host.Outcome State Fault Refusal :=
  onRow (.rxbChecksumLo b) s (tryValidate { s with ckLo := b, ckCnt := false, rxState := .validate })

/-- `RXB.FATAL_DISCARD`: accepted and discarded before the tap (R90, R185). -/
def execRxbFatalDiscard (b : Byte) (s : State) : Host.Outcome State Fault Refusal :=
  onRow (.rxbFatalDiscard b) s s

end Sys2Proof.Machine
end

