-- ==== Sys2Proof/Machine/Strobes.lean ====
section
/-! DEFINITION. The environment strobes (`45_break.md` R171, `44_ack_noack.md` R159, `60_exceptions.md` R183,
`70_reset_and_hazards.md` R200), one meaning per row. -/

namespace Sys2Proof.Machine

/-- `BRKIN`: always enabled (R171). -/
def execBrkin (s : State) : Host.Outcome State Fault Refusal :=
  .next { s with brk := true }

/-- `ACK_TIMEOUT`: acts like a received `-`, also while the framer is held (R159). -/
def execAckTimeout (s : State) : Host.Outcome State Fault Refusal :=
  if s.hostState = .waitAck then .next (negativeEvent s) else .refused .ackTimerNotRunning

/-- `LINKFAIL` (R183): the receive side is not touched. -/
def execLinkfail (s : State) : Host.Outcome State Fault Refusal :=
  let s' := if broken s then s else raiseError .transportFailure s
  .next (if s.hostState = .idle then s' else respond (.bool false) { s' with pend := none, retryCnt := 0 })

/-- `RESET` (R200). -/
def execReset (s : State) : Host.Outcome State Fault Refusal :=
  .next (resetRegisters s)

end Sys2Proof.Machine
end

