-- ==== Sys2Proof/Machine/Transmit.lean ====
section
/-! DEFINITION. The rows of the transmit stream (`20_memory.md` R42), one meaning per row: the bytes the transmitter hands to
the transport by `Emit` (`10_state.md` R31; entry 20). -/

namespace Sys2Proof.Machine

/-- `TX.ACK_PLUS`: `if rx_notif = 0 and noack = 0: Emit([0x2B])` (R114). -/
def execTxAckPlus (s : State) : Host.Outcome State Fault Refusal :=
  .next (emitAck chPlus s)

/-- `TX.ACK_MINUS`: `if rx_notif = 0 and noack = 0: Emit([0x2D])` (R115). -/
def execTxAckMinus (s : State) : Host.Outcome State Fault Refusal :=
  .next (emitAck chMinus s)

/-- `TX.FRAME`: `Emit(Frame(P, notif))` (R71, R140). -/
def execTxFrame (payload : Bytes) (notif : Bool) (s : State) : Host.Outcome State Fault Refusal :=
  .next (emit (frame payload notif) s)

/-- `TX.ESCAPED_BYTE`: a reserved byte is sent as 0x7D and the byte XOR 0x20 (R65, R70). -/
def execTxEscapedByte (b : Byte) (s : State) : Host.Outcome State Fault Refusal :=
  .next (emit (escapePair b) s)

end Sys2Proof.Machine
end

