-- ==== Sys2Proof/Machine/WireForm.lean ====
section
/-! DEFINITION. The forms of a wire payload and of a checksum character (`30_encoding.md` R72 to R75), one meaning per row:
the effect one form has on the working values of the validation procedure (entry 4). -/

namespace Sys2Proof.Machine

/-- `WP.ESCAPE_PAIR`: `Lit(e XOR 0x20)`, whatever `e` is (R72). -/
def execWpEscapePair (e : Byte) (s : State) : Host.Outcome State Fault Refusal :=
  .next { s with work := pushToken (escapeToken e) s.work }

/-- `WP.RUNLENGTH_PAIR`: `Rep(c)`, the count byte taken raw (R72, R74). -/
def execWpRunlengthPair (c : Byte) (s : State) : Host.Outcome State Fault Refusal :=
  .next { s with work := pushToken (.rep c) s.work }

/-- `WP.LITERAL`: `Lit(b)` (R72). -/
def execWpLiteral (b : Byte) (s : State) : Host.Outcome State Fault Refusal :=
  .next { s with work := pushToken (.lit b) s.work }

/-- `CK.DIGIT_0_7`: value `byte - 0x30` (R75). -/
def execCkDigit0to7 (n : BitVec 3) (s : State) : Host.Outcome State Fault Refusal :=
  .next { s with work := pushChecksumChar (some (BitVec.ofNat 4 n.toNat)) s.work }

/-- `CK.DIGIT_8_9`: value `byte - 0x30` (R75). -/
def execCkDigit8to9 (n : BitVec 1) (s : State) : Host.Outcome State Fault Refusal :=
  .next { s with work := pushChecksumChar (some (BitVec.ofNat 4 (8 + n.toNat))) s.work }

/-- `CK.LETTER_a`: value 10 (R75). -/
def execCkLetterA (s : State) : Host.Outcome State Fault Refusal :=
  .next { s with work := pushChecksumChar (some 10) s.work }

/-- `CK.LETTER_b_c`: value `byte - 0x61 + 10` (R75). -/
def execCkLetterBC (n : BitVec 1) (s : State) : Host.Outcome State Fault Refusal :=
  .next { s with work := pushChecksumChar (some (BitVec.ofNat 4 (11 + n.toNat))) s.work }

/-- `CK.LETTER_d_e`: value `byte - 0x61 + 10` (R75). -/
def execCkLetterDE (n : BitVec 1) (s : State) : Host.Outcome State Fault Refusal :=
  .next { s with work := pushChecksumChar (some (BitVec.ofNat 4 (13 + n.toNat))) s.work }

/-- `CK.LETTER_f`: value 15 (R75). -/
def execCkLetterF (s : State) : Host.Outcome State Fault Refusal :=
  .next { s with work := pushChecksumChar (some 15) s.work }

/-- `CK.INVALID`: the frame that carries the character fails validation (R75, R112 item 2). -/
def execCkInvalid (_b : Byte) (s : State) : Host.Outcome State Fault Refusal :=
  .next { s with work := pushChecksumChar none s.work }

end Sys2Proof.Machine
end

