-- ==== Sys2Proof/Machine/Dispatch.lean ====
section
/-! DEFINITION. `exec`: one arm per row of `spec/opcode_table.json`, each one direct call of its meaning. -/

namespace Sys2Proof.Machine

def exec (i : Instr) (s : State) : Host.Outcome State Fault Refusal :=
  match i with
  | .rxbBreakTap => Sys2Proof.Machine.execRxbBreakTap s
  | .rxbStartPacket => Sys2Proof.Machine.execRxbStartPacket s
  | .rxbStartNotification => Sys2Proof.Machine.execRxbStartNotification s
  | .rxbAckPlus => Sys2Proof.Machine.execRxbAckPlus s
  | .rxbAckMinus => Sys2Proof.Machine.execRxbAckMinus s
  | .rxbDiscard b => Sys2Proof.Machine.execRxbDiscard b s
  | .rxbEndPayload => Sys2Proof.Machine.execRxbEndPayload s
  | .rxbPayloadByte b => Sys2Proof.Machine.execRxbPayloadByte b s
  | .rxbChecksumHi b => Sys2Proof.Machine.execRxbChecksumHi b s
  | .rxbChecksumLo b => Sys2Proof.Machine.execRxbChecksumLo b s
  | .rxbFatalDiscard b => Sys2Proof.Machine.execRxbFatalDiscard b s
  | .wpEscapePair e => Sys2Proof.Machine.execWpEscapePair e s
  | .wpRunlengthPair c => Sys2Proof.Machine.execWpRunlengthPair c s
  | .wpLiteral b => Sys2Proof.Machine.execWpLiteral b s
  | .ckDigit0to7 n => Sys2Proof.Machine.execCkDigit0to7 n s
  | .ckDigit8to9 n => Sys2Proof.Machine.execCkDigit8to9 n s
  | .ckLetterA => Sys2Proof.Machine.execCkLetterA s
  | .ckLetterBC n => Sys2Proof.Machine.execCkLetterBC n s
  | .ckLetterDE n => Sys2Proof.Machine.execCkLetterDE n s
  | .ckLetterF => Sys2Proof.Machine.execCkLetterF s
  | .ckInvalid b => Sys2Proof.Machine.execCkInvalid b s
  | .available block => Sys2Proof.Machine.execAvailable block s
  | .rcv => Sys2Proof.Machine.execRcv s
  | .snd payload notif => Sys2Proof.Machine.execSnd payload notif s
  | .pendingBreak => Sys2Proof.Machine.execPendingBreak s
  | .clearBreak => Sys2Proof.Machine.execClearBreak s
  | .isReliable => Sys2Proof.Machine.execIsReliable s
  | .setNoack => Sys2Proof.Machine.execSetNoack s
  | .cmdReserved w => Sys2Proof.Machine.execCmdReserved w s
  | .brkin => Sys2Proof.Machine.execBrkin s
  | .ackTimeout => Sys2Proof.Machine.execAckTimeout s
  | .linkfail => Sys2Proof.Machine.execLinkfail s
  | .reset => Sys2Proof.Machine.execReset s
  | .txAckPlus => Sys2Proof.Machine.execTxAckPlus s
  | .txAckMinus => Sys2Proof.Machine.execTxAckMinus s
  | .txFrame payload notif => Sys2Proof.Machine.execTxFrame payload notif s
  | .txEscapedByte b => Sys2Proof.Machine.execTxEscapedByte b s
  | .respDone => Sys2Proof.Machine.execRespDone s
  | .respBool v => Sys2Proof.Machine.execRespBool v s
  | .respPacket payload notif => Sys2Proof.Machine.execRespPacket payload notif s
  | .respError code => Sys2Proof.Machine.execRespError code s

end Sys2Proof.Machine
end

