-- ==== Sys2Proof/Machine/Fetch.lean ====
section
/-! DEFINITION. The step of the block: the next input is taken, its rows are read from its bits, and they run in the one
atomic step of the event (`00_scope.md` R8, `20_memory.md` R48). -/

namespace Sys2Proof.Machine

/-- The rows of one input, run one after another in one step (R90: the tap's row, then the byte's row). The first row that
stops, stops the step. -/
def runRows : List Instr → State → Host.Outcome State Fault Refusal
  | [], s => .next s
  | i :: rest, s =>
    match exec i s with
    | .next s' => runRows rest s'
    | .fault f => .fault f
    | .refused r => .refused r

/-- An input that stands for no row: a byte that is not accepted, or bits that are no row of the table. -/
def rejectInput : DecodeError → Refusal
  | .rxNotReady => .rxNotReady
  | e => .notAnInstruction e

/-- One step. With no event presented no register changes (R7; entry 2), so a stall stays visible as a stall (R205). -/
def stepOnce (s : State) : Host.Outcome State Fault Refusal :=
  match s.inputs with
  | [] => .next (taken [] s)
  | input :: rest =>
    match decode (rxContext s) input with
    | .error e => .refused (rejectInput e)
    | .ok rows => runRows rows (taken rest s)

/-- The bits of a table word presented as the next input: the row that `decodeTableWord` reads from them, in the receive
state that selects it; bits that are no row are presented as they are (entry 5). -/
def presentWord (nbits w : Nat) (s : State) : State :=
  match decodeTableWord nbits w with
  | some i => present i s
  | none => { s with inputs := .wireForm (tableBytes nbits w) :: s.inputs }

end Sys2Proof.Machine
end

