-- ==== Sys2Proof/Machine/Step.lean ====
section
/-! DEFINITION. The machine's step and the placing of a bare table word; both only call `Machine/Fetch.lean`. -/

namespace Sys2Proof.Machine

/-- One step of the block: the next event of `inputs` (R8, R51). -/
def step (s : State) : Host.Outcome State Fault Refusal := stepOnce s

/-- The state in which `step` runs next exactly the row that a table word is read as (entry 5). The block executes no
program (R9); this stands for its environment presenting that input. -/
def State.withFetchWord (s : State) (nbits w : Nat) : State := presentWord nbits w s

end Sys2Proof.Machine
end

