-- ==== Sys2Proof/Safety.lean ====
section
/-! DEFINITION. The terms the statements use: which inputs are events of the block, the invariant of `10_state.md` R29, and
the views under which two outcomes are compared. -/

namespace Sys2Proof.Machine

/-! ### Events -/

/-- The events of R8: a received byte, a host command, a strobe. The other inputs present one form to one unit (entry 3). -/
def isEventInput : Input → Bool
  | .rxByte _ | .command _ _ | .strobe _ => true
  | .wireForm _ | .checksumChar _ | .transmit _ | .response _ _ => false

/-- The rows that are events of R8: the table's formats `RXB`, `CMD` and `STROBE`. -/
def isEventRow (i : Instr) : Bool := isEventInput (encode i)

/-- The bits of an input, without the payload that travels beside a word (R77, R79). -/
def inputBits : Input → Bytes
  | .rxByte b | .checksumChar b => [b]
  | .command w _ | .response w _ => [w]
  | .strobe _ => []
  | .wireForm bytes | .transmit bytes => bytes

/-! ### The invariant of R29 -/

/-- R29 items 1, 2, 3 and 9: what a command in progress implies. -/
abbrev hostConsistent (s : State) : Prop :=
  (s.hostState = .waitAck → s.pend ≠ none ∧ s.noack = false ∧ s.fatal = .none) ∧
  (s.hostState ≠ .waitAck → s.pend = none ∧ s.retryCnt = 0) ∧
  (s.hostState = .waitAvail → s.pktValid = false ∧ s.fatal = .none) ∧
  (s.fatal ≠ .none → s.hostState = .idle) ∧
  (s.hostState ≠ .idle → s.resp = none)

/-- R29 items 4, 5 and 6, and U10: what the receive state implies of the frame in progress. -/
abbrev receiveConsistent (s : State) : Prop :=
  (s.rxState = .validate → s.pktValid = true) ∧
  (s.rxState = .scanForStart → s.acc = [] ∧ s.accOvf = false ∧ s.rxNotif = false ∧ s.ckHi = 0x00 ∧ s.ckLo = 0x00) ∧
  (s.rxState = .accumulatePayload → s.ckHi = 0x00 ∧ s.ckLo = 0x00) ∧
  (s.rxState = .readChecksum → s.ckLo = 0x00 ∧ (s.ckCnt = false → s.ckHi = 0x00)) ∧
  (s.rxState ≠ .readChecksum → s.ckCnt = false)

/-- R29 item 7: an empty slot holds nothing. -/
abbrev slotConsistent (s : State) : Prop :=
  s.pktValid = false → s.pktPayload = [] ∧ s.pktNotif = false

/-- The frame awaiting acknowledgment is a packet frame of a payload that `SND` takes (R20, R143, R145). -/
def pendIsPacketFrame (s : State) : Bool :=
  match s.pend with
  | none => true
  | some f =>
    match decodeFrame f with
    | some (payload, notif) => !notif && capAdmits s.params.maxPayload payload.length
    | none => false

/-- The capacities of R54 and the bound of R20. -/
abbrev withinCapacity (s : State) : Prop :=
  capAdmits s.params.maxWire s.acc.length = true ∧
  (s.accOvf = true → s.params.maxWire ≠ .inf) ∧
  capAdmits s.params.maxPayload s.pktPayload.length = true ∧
  s.retryCnt ≤ s.params.maxRetries ∧
  pendIsPacketFrame s = true

/-- The invariant: R29 items 1 to 7 and 9, U10 and the capacities, with an environment that presents events only. -/
abbrev Consistent (s : State) : Prop :=
  hostConsistent s ∧ receiveConsistent s ∧ slotConsistent s ∧ withinCapacity s ∧ s.inputs.all isEventInput = true

/-! ### Runs and views of an outcome -/

/-- `n` steps of the machine, stopping at a refusal. -/
def run : Nat → State → Host.Outcome State Fault Refusal
  | 0, s => .next s
  | n + 1, s =>
    match step s with
    | .next t => run n t
    | .fault f => .fault f
    | .refused r => .refused r

/-- An outcome with its next state seen through `view`. -/
def viewed (view : State → State) : Host.Outcome State Fault Refusal → Host.Outcome State Fault Refusal
  | .next s => .next (view s)
  | .fault f => .fault f
  | .refused r => .refused r

/-- Whether an outcome is a refusal. -/
def isRefused : Host.Outcome State Fault Refusal → Bool
  | .refused _ => true
  | _ => false

end Sys2Proof.Machine
end

