-- ==== Sys2Proof/Certificates/Slice0/Obligations.lean ====
section
/-! DEFINITION. The statements for the provers. The exec-level statements give the whole next state, so each of them is
also the instruction's frame. -/

open Sys2Proof Sys2Proof.Machine

/-! ## The step, the decoder and the encoder -/

/-- An input that is one row runs that row; an input of two rows (0x03 on the receive stream) runs them in order;
without an input nothing moves but the end of the pulse `brk_clr` (entries 2 and 8). -/
def Obligations.StepRunsDecodedRows : Prop :=
  ∀ s : State,
    (∀ input rest, s.inputs = input :: rest →
      (∀ i, decode (rxContext s) input = .ok [i] → step s = exec i { s with inputs := rest, brkClr := false }) ∧
      (∀ i j t, decode (rxContext s) input = .ok [i, j] →
        exec i { s with inputs := rest, brkClr := false } = .next t → step s = exec j t)) ∧
    (s.inputs = [] → step s = .next { s with brkClr := false })

/-- R76: the class of a received byte in each receive state. Basis: an inference the spec marks as its own. -/
def Obligations.ReceivedByteClasses : Prop :=
  ∀ c : RxContext, c.broken = false →
    (c.rxState = .scanForStart →
      decodeByte c 0x24 = .ok .rxbStartPacket ∧ decodeByte c 0x25 = .ok .rxbStartNotification ∧
      (c.waitAck = true → decodeByte c 0x2b = .ok .rxbAckPlus ∧ decodeByte c 0x2d = .ok .rxbAckMinus) ∧
      ∀ b, b ≠ 0x24 → b ≠ 0x25 → (b = 0x2b ∨ b = 0x2d → c.waitAck = false) → decodeByte c b = .ok (.rxbDiscard b)) ∧
    (c.rxState = .accumulatePayload →
      decodeByte c 0x23 = .ok .rxbEndPayload ∧ ∀ b, b ≠ 0x23 → decodeByte c b = .ok (.rxbPayloadByte b)) ∧
    (c.rxState = .readChecksum →
      ∀ b, decodeByte c b = .ok (if c.ckCnt = true then .rxbChecksumLo b else .rxbChecksumHi b)) ∧
    (c.rxState = .validate → ∀ b, decodeByte c b = .error .rxNotReady) ∧
    (c.rxState ≠ .validate → ∀ b, decodeTap c b = if b = 0x03 then [.rxbBreakTap] else [])

/-- R90 and R170: a received byte meets the fatal test, then the BREAK tap, then its own row, in one step; a byte that
is not accepted is refused and not seen by the tap. Basis: the spec's own D1, D3, D13, D21, D36 (entries 101, 103,
113, 121, 136). -/
def Obligations.ReceivedBytePassesTheTap : Prop :=
  ∀ (s : State) (b : Byte) (rest : List Input), s.inputs = .rxByte b :: rest →
    (s.fatal ≠ .none → step s = .next { s with inputs := rest, brkClr := false }) ∧
    (s.fatal = .none → s.rxState = .validate → step s = .refused .rxNotReady) ∧
    (s.fatal = .none → s.rxState ≠ .validate →
      ∃ i, decodeByte (rxContext s) b = .ok i ∧
        step s = exec i { s with inputs := rest, brkClr := false, brk := s.brk || b == 0x03 })

/-- Decode after encode is the row itself, in every receive state that selects the row; a byte 0x03 carries the tap's
row in front of its own. -/
def Obligations.EncodedRowsDecodeBack : Prop :=
  ∀ (c : RxContext) (i : Instr), i.wellFormed = true → rowSelected c i = true →
    (i = .rxbBreakTap → ∃ j, decodeByte c 0x03 = .ok j ∧ decode c (encode i) = .ok [i, j]) ∧
    (i ≠ .rxbBreakTap →
      decode c (encode i) = .ok (if encode i = .rxByte 0x03 ∧ c.broken = false then [.rxbBreakTap, i] else [i]))

/-- What the decoder answers is well formed, selected by the receive state, and has the bits of the input it was read
from. Basis: an inference the spec marks as its own. -/
def Obligations.DecodedRowsAreSelected : Prop :=
  ∀ (c : RxContext) (input : Input) (rows : List Instr), decode c input = .ok rows →
    rows ≠ [] ∧
    ∀ i ∈ rows, i.wellFormed = true ∧ rowSelected c i = true ∧ inputBits (encode i) = inputBits input ∧
      isEventRow i = isEventInput input

/-- A few words written out from the spec's encodings decode to the rows they stand for. -/
def Obligations.WrittenWordsDecode : Prop :=
  decodeByte ⟨false, .scanForStart, false, false⟩ 0b00100100#8 = .ok .rxbStartPacket ∧
  decodeByte ⟨false, .accumulatePayload, false, false⟩ 0b00100100#8 = .ok (.rxbPayloadByte 0b00100100#8) ∧
  decodeWireForm [0b01111101#8, 0b01011101#8] = .ok (.wpEscapePair 0b01011101#8) ∧
  decodeWireForm [0b00101010#8, 0b00100000#8] = .ok (.wpRunlengthPair 0b00100000#8) ∧
  decodeChecksumChar 0b01100011#8 = .ckLetterBC 0b1#1 ∧
  decodeCommand 0b00010001#8 [] = .available true ∧
  decodeTransmission [0x24, 0x67, 0x23, 0x36, 0x37] = .ok (.txFrame [0x67] false) ∧
  decodeResponse 0b00100011#8 [] = .ok (.respError .protocolStateError)

/-- No step ends because a row was run in a receive state that selects another. -/
def Obligations.StepRunsSelectedRowsOnly : Prop :=
  ∀ s : State, step s ≠ .refused .rowNotSelected

/-- R190: an event is refused exactly in the cases of the rule's list, and no event faults. Basis: the spec's own D13,
D17, D18, D24, D26 (entries 113, 117, 118, 124, 126). -/
def Obligations.EventsAreRefusedExactlyAsListed : Prop :=
  ∀ (s : State) (input : Input) (rest : List Input), s.inputs = input :: rest → isEventInput input = true →
    (isRefused (step s) = true ↔
      match input with
      | .rxByte _ => s.fatal = .none ∧ s.rxState = .validate
      | .command w payload =>
        s.hostState ≠ .idle ∨ decodeCommand w payload = .cmdReserved w ∨
          ((w = 0x03 ∨ w = 0x13) ∧ capAdmits s.params.maxPayload payload.length = false)
      | .strobe .ackTimeout => s.hostState ≠ .waitAck
      | _ => False) ∧
    ∀ f, step s ≠ .fault f

/-- R27 and R79: every field of the status word, and the response words. Basis: the spec's own D23, D24 (entries 123,
124). -/
def Obligations.HostPortWords : Prop :=
  (∀ s : State,
    (statusWord s).getLsbD 0 = s.pktValid ∧ (statusWord s).getLsbD 1 = s.pktNotif ∧
    (statusWord s).getLsbD 2 = s.noack ∧ (statusWord s).getLsbD 3 = s.brk ∧
    (statusWord s).extractLsb' 4 3 =
      (match s.fatal with | .none => 0#3 | .transportFailure => 3#3 | .retryExhausted => 4#3) ∧
    (statusWord s).extractLsb' 7 2 =
      (match s.hostState with | .idle => 0#2 | .waitAvail => 1#2 | .waitAck => 2#2) ∧
    (statusWord s).extractLsb' 9 2 =
      (match s.rxState with
        | .scanForStart => 0#2 | .accumulatePayload => 1#2 | .readChecksum => 2#2 | .validate => 3#2) ∧
    (statusWord s).getLsbD 11 = s.ckCnt ∧ (statusWord s).getLsbD 12 = s.accOvf ∧
    (statusWord s).getLsbD 13 = s.rxNotif ∧ (statusWord s).getLsbD 14 = rxReady s ∧
    (statusWord s).getLsbD 15 = false) ∧
  responseWord .done = 0b00000000#8 ∧
  (∀ v, responseWord (.bool v) = if v = true then 0b00000101#8 else 0b00000001#8) ∧
  (∀ payload n, responseWord (.packet payload n) = if n = true then 0b00000110#8 else 0b00000010#8) ∧
  responseWord (.error .checksumMismatch) = 0b00010011#8 ∧
  responseWord (.error .protocolStateError) = 0b00100011#8 ∧
  responseWord (.error .transportFailure) = 0b00110011#8 ∧
  responseWord (.error .retryExhausted) = 0b01000011#8

/-! ## The receive framer and the validator -/

/-- R91: `$` opens a packet frame, whatever `host_state` is. Basis: the spec's own D15 (entry 115). -/
def Obligations.DollarOpensAPacket : Prop :=
  ∀ s : State, s.fatal = .none → s.rxState = .scanForStart →
    decode (rxContext s) (.rxByte 0x24) = .ok [.rxbStartPacket] ∧
    exec .rxbStartPacket s =
      .next { s with rxNotif := false, acc := [], accOvf := false, rxState := .accumulatePayload }

/-- R92: `%` opens a notification frame. -/
def Obligations.PercentOpensANotification : Prop :=
  ∀ s : State, s.fatal = .none → s.rxState = .scanForStart →
    decode (rxContext s) (.rxByte 0x25) = .ok [.rxbStartNotification] ∧
    exec .rxbStartNotification s =
      .next { s with rxNotif := true, acc := [], accOvf := false, rxState := .accumulatePayload }

/-- R170 and R171: each of the two sources of a BREAK sets `brk` and nothing else, the tap in every receive state that
accepts a byte, `BRKIN` in every state. Basis: the spec's own D3, D4 (entries 103, 104). -/
def Obligations.BreakSourcesSetOnlyBrk : Prop :=
  ∀ s : State,
    (s.fatal = .none → s.rxState ≠ .validate → exec .rxbBreakTap s = .next { s with brk := true }) ∧
    exec .brkin s = .next { s with brk := true }

/-- R93: in `SCAN_FOR_START` every byte that is no start marker, and no `+` or `-` while one is awaited, is discarded
without any effect of its own, in both session modes; 0x03 is seen by the tap besides. -/
def Obligations.DiscardedBytesChangeNothing : Prop :=
  ∀ (s : State) (b : Byte), s.fatal = .none → s.rxState = .scanForStart → b ≠ 0x24 → b ≠ 0x25 →
    (b = 0x2b ∨ b = 0x2d → s.hostState ≠ .waitAck) →
    decode (rxContext s) (.rxByte b) =
      .ok (if b = 0x03 then [.rxbBreakTap, .rxbDiscard b] else [.rxbDiscard b]) ∧
    exec (.rxbDiscard b) s = .next s

/-- R94, R95, R96: the bytes of a frame between its marker and its second checksum character. Basis: the spec's own
D7, D8, D25 (entries 107, 108, 125). -/
def Obligations.FrameBytesAreStored : Prop :=
  ∀ s : State, s.fatal = .none →
    (s.rxState = .accumulatePayload →
      exec .rxbEndPayload s = .next { s with rxState := .readChecksum, ckCnt := false } ∧
      ∀ b, b ≠ 0x23 →
        (capHasRoom s.params.maxWire s.acc.length = true →
          exec (.rxbPayloadByte b) s = .next { s with acc := s.acc ++ [b] }) ∧
        (capHasRoom s.params.maxWire s.acc.length = false →
          exec (.rxbPayloadByte b) s = .next { s with accOvf := true })) ∧
    (s.rxState = .readChecksum → s.ckCnt = false →
      ∀ b, exec (.rxbChecksumHi b) s = .next { s with ckHi := b, ckCnt := true })

/-- R111: the last byte of a frame arriving while the slot is full leaves the frame held, unjudged and unacknowledged.
Basis: the spec's own D7, D13 (entries 107, 113). -/
def Obligations.FullSlotHoldsTheFrame : Prop :=
  ∀ (s : State) (b : Byte), s.fatal = .none → s.rxState = .readChecksum → s.ckCnt = true → s.pktValid = true →
    ∃ t, exec (.rxbChecksumLo b) s = .next t ∧
      t = { s with ckLo := b, ckCnt := false, rxState := .validate } ∧ rxReady t = false

/-- R113, R114, R122, R123: the last byte of a valid frame fills the slot, acknowledges the packet when an
acknowledgment is due, and completes a waiting `AVAILABLE`. Basis: the spec's own D7, D18 (entries 107, 118). -/
def Obligations.ValidFrameIsDelivered : Prop :=
  ∀ (s : State) (b : Byte) (payload : Bytes), s.fatal = .none → s.rxState = .readChecksum → s.ckCnt = true →
    s.pktValid = false → validPayload { s with ckLo := b } = some payload →
    exec (.rxbChecksumLo b) s = .next { s with
      pktValid := true, pktPayload := payload, pktNotif := s.rxNotif
      txOut := s.txOut ++ (if s.rxNotif = false ∧ s.noack = false then [0x2b] else [])
      hostState := if s.hostState = .waitAvail then .idle else s.hostState
      resp := if s.hostState = .waitAvail then some (.bool true) else s.resp
      ckCnt := false, acc := [], accOvf := false, rxNotif := false, ckHi := 0x00, ckLo := 0x00
      rxState := .scanForStart }

/-- R115, R116, R117, R122: the last byte of an invalid frame drops it; a `-` goes out for a packet frame in ack mode
and for no other; the slot and a waiting `AVAILABLE` are untouched. Basis: the spec's own D7, D12 (entries 107, 112).
-/
def Obligations.InvalidFrameIsRejected : Prop :=
  ∀ (s : State) (b : Byte), s.fatal = .none → s.rxState = .readChecksum → s.ckCnt = true →
    s.pktValid = false → validPayload { s with ckLo := b } = none →
    exec (.rxbChecksumLo b) s = .next { s with
      txOut := s.txOut ++ (if s.rxNotif = false ∧ s.noack = false then [0x2d] else [])
      raised := s.raised ++ [.checksumMismatch]
      ckCnt := false, acc := [], accOvf := false, rxNotif := false, ckHi := 0x00, ckLo := 0x00
      rxState := .scanForStart }

/-- R112: a frame is valid exactly when the six conditions hold, and then `P` is its decoded payload. Basis: the
spec's own D5, D6, D9, D25 (entries 105, 106, 109, 125). -/
def Obligations.ValidityIsTheSixConditions : Prop :=
  ∀ (s : State) (payload : Bytes),
    validPayload s = some payload ↔
      s.accOvf = false ∧
      ∃ h l tokens, hexVal s.ckHi = some h ∧ hexVal s.ckLo = some l ∧ tokenize s.acc = some tokens ∧
        (tokSum tokens).toNat = 16 * h.toNat + l.toNat ∧ expand tokens = some payload ∧
        capAdmits s.params.maxPayload payload.length = true

/-- R72 to R75: run one at a time, the rows of a wire payload read, sum and expand it as `Tokenize`, `TokSum` and
`Expand` do, the rows of two checksum characters assemble the checksum they carry, and nothing else of the state moves
(entry 4). Basis: the spec's own D5, D6, D9, D10, D11 (entries 105, 106, 109, 110, 111). -/
def Obligations.WireRowsRefineTheDecoder : Prop :=
  ∀ s : State,
    (∀ wire, decodeWirePayload wire = none ↔ tokenize wire = none) ∧
    (∀ wire rows, decodeWirePayload wire = some rows →
      ∃ w tokens, runRows rows { s with work := Work.fresh } = .next { s with work := w } ∧
        tokenize wire = some tokens ∧ w.tokens = tokens ∧ w.sum = tokSum tokens ∧ w.out = expand tokens) ∧
    ∀ hi lo, ∃ w,
      runRows [decodeChecksumChar hi, decodeChecksumChar lo] { s with work := Work.fresh } = .next { s with work := w } ∧
        w.carried = carriedChecksum hi lo

/-- R72 to R75 row by row: the effect of one form of a wire payload, and of one checksum character, on the working
values of the validation procedure (entry 4). Basis: the spec's own D5, D6, D9, D10, D11 (entries 105, 106, 109, 110,
111). -/
def Obligations.DecodingRowsActOnWork : Prop :=
  ∀ s : State,
    (∀ e, exec (.wpEscapePair e) s = .next { s with work := { s.work with
      tokens := s.work.tokens ++ [.lit (e ^^^ 0x20)]
      sum := s.work.sum + (e ^^^ 0x20)
      out := s.work.out.map (· ++ [e ^^^ 0x20]) } }) ∧
    (∀ b, exec (.wpLiteral b) s = .next { s with work := { s.work with
      tokens := s.work.tokens ++ [.lit b], sum := s.work.sum + b, out := s.work.out.map (· ++ [b]) } }) ∧
    (∀ c, exec (.wpRunlengthPair c) s = .next { s with work := { s.work with
      tokens := s.work.tokens ++ [.rep c]
      sum := s.work.sum + 0x2a + c
      out := s.work.out.bind fun out => match out.getLast? with
        | none => none
        | some l => if c.toNat < 29 then none else some (out ++ List.replicate (c.toNat - 29) l) } }) ∧
    (∀ n, exec (.ckDigit0to7 n) s = .next { s with work := { s.work with
      carried := s.work.carried.map fun c => 16 * c + n.setWidth 8 } }) ∧
    (∀ n, exec (.ckDigit8to9 n) s = .next { s with work := { s.work with
      carried := s.work.carried.map fun c => 16 * c + (8 + n.setWidth 8) } }) ∧
    exec .ckLetterA s = .next { s with work := { s.work with carried := s.work.carried.map fun c => 16 * c + 10 } } ∧
    (∀ n, exec (.ckLetterBC n) s = .next { s with work := { s.work with
      carried := s.work.carried.map fun c => 16 * c + (11 + n.setWidth 8) } }) ∧
    (∀ n, exec (.ckLetterDE n) s = .next { s with work := { s.work with
      carried := s.work.carried.map fun c => 16 * c + (13 + n.setWidth 8) } }) ∧
    exec .ckLetterF s = .next { s with work := { s.work with carried := s.work.carried.map fun c => 16 * c + 15 } } ∧
    ∀ b, exec (.ckInvalid b) s = .next { s with work := { s.work with carried := none } }

/-- R98: every transition of `rx_state`, and no other exists. Basis: an inference the spec marks as its own. -/
def Obligations.ReceiveStateTransitions : Prop :=
  ∀ (i : Instr) (s t : State), exec i s = .next t →
    t.rxState = match i with
      | .rxbStartPacket | .rxbStartNotification => .accumulatePayload
      | .rxbEndPayload => .readChecksum
      | .rxbChecksumLo _ => if s.pktValid = true then .validate else .scanForStart
      | .rcv => if s.rxState = .validate ∧ s.pktValid = true then .scanForStart else s.rxState
      | .reset => .scanForStart
      | _ => s.rxState

/-- R99 and R41: a byte sequence has the same effect however it was cut into deliveries. Basis: an inference the spec
marks as its own. -/
def Obligations.ReceptionIgnoresCuts : Prop :=
  ∀ (s : State) (a b : Bytes),
    run (a.length + b.length) { s with inputs := (a ++ b).map .rxByte } =
      match run a.length { s with inputs := a.map .rxByte } with
      | .next t => run b.length { t with inputs := b.map .rxByte }
      | .fault f => .fault f
      | .refused r => .refused r

/-! ## The wire format -/

/-- R68. -/
def Obligations.ChecksumIsTheSumModulo256 : Prop :=
  sum8 [] = 0 ∧ ∀ payload : Bytes, (sum8 payload).toNat = (payload.map BitVec.toNat).sum % 256

/-- R69 and R75: the two characters the transmitter writes are read back as the value, high nibble first, and exactly
the sixteen lowercase digits are read at all. Basis: the spec's own D6 (entry 106). -/
def Obligations.ChecksumDigitsReadBack : Prop :=
  (∀ v : Byte, ∃ hi lo, hex2 v = [hi, lo] ∧ hexVal hi = some (v.extractLsb' 4 4) ∧
    hexVal lo = some (v.extractLsb' 0 4) ∧ carriedChecksum hi lo = some v) ∧
  ∀ ch : Byte, hexVal ch ≠ none ↔ 0x30 ≤ ch ∧ ch ≤ 0x39 ∨ 0x61 ≤ ch ∧ ch ≤ 0x66

/-- R70: the escaped form of a payload, and what it contains: the last clause says that every `}` of it stands first
in a pair. -/
def Obligations.EscapedPayloadIsClean : Prop :=
  ∀ payload : Bytes,
    esc payload = payload.flatMap (fun b =>
      if b = 0x24 ∨ b = 0x23 ∨ b = 0x7d ∨ b = 0x2a then [0x7d, b ^^^ 0x20] else [b]) ∧
    payload.length ≤ (esc payload).length ∧ (esc payload).length ≤ 2 * payload.length ∧
    0x24 ∉ esc payload ∧ 0x23 ∉ esc payload ∧ 0x2a ∉ esc payload ∧
    decodeWirePayload (esc payload) = some (payload.map fun b =>
      if b = 0x24 ∨ b = 0x23 ∨ b = 0x7d ∨ b = 0x2a then .wpEscapePair (b ^^^ 0x20) else .wpLiteral b)

/-- R73: what the receiver sums over an escaped payload is what the transmitter summed over the payload, and the
payload comes back. Basis: the spec's own D5, D9, D10 (entries 105, 109, 110). -/
def Obligations.EscapedPayloadReadsBack : Prop :=
  ∀ payload : Bytes, ∃ tokens,
    tokenize (esc payload) = some tokens ∧ tokSum tokens = sum8 payload ∧ expand tokens = some payload

/-- R146, R203, R204: a frame holds the BREAK byte exactly when its payload holds 0x03 or `#`. Basis: the spec's own
D6 (entry 106) and an inference the spec marks as its own. -/
def Obligations.FrameHoldsBreakByteIff : Prop :=
  ∀ (payload : Bytes) (notif : Bool), 0x03 ∈ frame payload notif ↔ 0x03 ∈ payload ∨ 0x23 ∈ payload

/-- R146, from every state that scans with an empty slot (the reset state among them, and a block that waits for its
own acknowledgment, R161): the bytes of `Frame(P, notif)` deliver exactly `P`, with one `+` for a packet in ack mode.
Basis: the spec's own D3, D5, D15, D25 (entries 103, 105, 115, 125) and an inference the spec marks as its own. -/
def Obligations.FrameRoundTrip : Prop :=
  ∀ (s : State) (payload : Bytes) (notif : Bool) (rest : List Input),
    s.fatal = .none → s.rxState = .scanForStart → s.pktValid = false →
    capAdmits s.params.maxPayload payload.length = true →
    (capAdmits s.params.maxWire (esc payload).length = true ∨
      capAdmits s.params.maxWire (2 * payload.length) = true) →
    s.inputs = (frame payload notif).map .rxByte ++ rest →
    ∃ t, run (frame payload notif).length s = .next t ∧
      t.inputs = rest ∧ t.pktValid = true ∧ t.pktPayload = payload ∧ t.pktNotif = notif ∧
      t.txOut = s.txOut ++ (if notif = false ∧ s.noack = false then [0x2b] else []) ∧
      t.brk = (s.brk || decide (0x03 ∈ frame payload notif)) ∧ t.rxState = .scanForStart ∧ t.raised = s.raised

/-- R214 (i): a good packet frame received in ack mode with an empty slot, with one bit of either checksum character
changed, is rejected with one `-`. Basis: the spec's own D6 (entry 106) and an inference the spec marks as its own. -/
def Obligations.CorruptedChecksumBitIsCaught : Prop :=
  ∀ (s : State) (b : Byte) (k : Nat), k < 8 → s.fatal = .none → s.rxState = .readChecksum → s.ckCnt = true →
    s.pktValid = false → s.rxNotif = false → s.noack = false → validPayload { s with ckLo := b } ≠ none →
    (∃ t, exec (.rxbChecksumLo (b ^^^ BitVec.twoPow 8 k)) s = .next t ∧
      t.pktValid = false ∧ t.txOut = s.txOut ++ [0x2d] ∧ t.raised = s.raised ++ [.checksumMismatch]) ∧
    ∃ t, exec (.rxbChecksumLo b) { s with ckHi := s.ckHi ^^^ BitVec.twoPow 8 k } = .next t ∧
      t.pktValid = false ∧ t.txOut = s.txOut ++ [0x2d] ∧ t.raised = s.raised ++ [.checksumMismatch]

/-- R214 (ii): a good packet frame fed whole, with one bit of one wire-payload byte changed, is rejected with one `-`,
when there is no `}` before or after the change and the change creates no `#`. Basis: the spec's own D5 (entry 105)
and an inference the spec marks as its own. -/
def Obligations.CorruptedPayloadBitIsCaught : Prop :=
  ∀ (s : State) (wire : Bytes) (hi lo : Byte) (j k : Nat) (rest : List Input), k < 8 → j < wire.length →
    s.fatal = .none → s.rxState = .scanForStart → s.pktValid = false → s.noack = false →
    capAdmits s.params.maxWire wire.length = true →
    validPayload { s with acc := wire, accOvf := false, ckHi := hi, ckLo := lo } ≠ none →
    0x23 ∉ wire → 0x7d ∉ wire →
    0x23 ∉ wire.modify j (· ^^^ BitVec.twoPow 8 k) → 0x7d ∉ wire.modify j (· ^^^ BitVec.twoPow 8 k) →
    s.inputs = ([0x24] ++ wire.modify j (· ^^^ BitVec.twoPow 8 k) ++ [0x23, hi, lo]).map .rxByte ++ rest →
    ∃ t, run (wire.length + 4) s = .next t ∧
      t.inputs = rest ∧ t.pktValid = false ∧ t.txOut = s.txOut ++ [0x2d] ∧
      t.raised = s.raised ++ [.checksumMismatch] ∧ t.rxState = .scanForStart

/-- R214 (a), (b), (c) and `90_conflicts.md` C2: three single flipped bits that are not caught: `$Ac41#09` with the
`c` become a `#`, the frame of `=*` with the `=` become an escape prefix, and a `$` become a `%`. Basis: an inference
the spec marks as its own. -/
def Obligations.SomeCorruptionIsNotCaught : Prop :=
  ∀ (reliable : Bool) (retries : Nat), ∀ start, start = State.start ⟨reliable, retries, .inf, .inf⟩ →
    (∃ t, run 8 { start with inputs := [0x24, 0x41, 0x63 ^^^ 0x40, 0x34, 0x31, 0x23, 0x30, 0x39].map .rxByte } = .next t ∧
      t.pktValid = true ∧ t.pktPayload = [0x41] ∧ t.txOut = [0x2b]) ∧
    (∃ t, run 7 { start with inputs := [0x24, 0x3d ^^^ 0x40, 0x7d, 0x0a, 0x23, 0x36, 0x37].map .rxByte } = .next t ∧
      t.pktValid = true ∧ t.pktPayload = [0x5d, 0x0a] ∧ t.txOut = [0x2b]) ∧
    ∃ t, run 8 { start with inputs := [0x24 ^^^ 0x01, 0x6d, 0x30, 0x2c, 0x34, 0x23, 0x66, 0x64].map .rxByte } = .next t ∧
      t.pktValid = true ∧ t.pktNotif = true ∧ t.txOut = []

/-! ## The host commands -/

/-- R130: the answer of `AVAILABLE`, or its wait. Basis: the spec's own D1, D18 (entries 101, 118). -/
def Obligations.AvailableAnswersOrWaits : Prop :=
  ∀ (s : State) (block : Bool), s.hostState = .idle →
    (s.pktValid = true → exec (.available block) s = .next { s with resp := some (.bool true) }) ∧
    (s.pktValid = false → block = false ∨ s.fatal ≠ .none →
      exec (.available block) s = .next { s with resp := some (.bool false) }) ∧
    (s.pktValid = false → block = true → s.fatal = .none →
      exec (.available block) s = .next { s with resp := none, hostState := .waitAvail })

/-- R182: `RCV` with no packet ready is the error, and nothing else changes (`raised` is the model's own record, entry
9). Basis: the spec's own D18 (entry 118). -/
def Obligations.RcvWithoutPacketIsAnError : Prop :=
  ∀ s : State, s.hostState = .idle → s.pktValid = false →
    exec .rcv s = .next { s with
      resp := some (.error .protocolStateError), raised := s.raised ++ [.protocolStateError] }

/-- R131: `RCV` returns the packet and empties the slot, when no frame is held. Basis: the spec's own D13, D18
(entries 113, 118). -/
def Obligations.RcvTakesThePacket : Prop :=
  ∀ s : State, s.hostState = .idle → s.pktValid = true → s.rxState ≠ .validate →
    exec .rcv s = .next { s with
      resp := some (.packet s.pktPayload s.pktNotif), pktValid := false, pktPayload := [], pktNotif := false }

/-- R131, R111, R187 item 4: `RCV` returns the old packet and judges the held frame in the same step, with the values
`noack` and `fatal` have then. Basis: the spec's own D13, D18, D28, D35 (entries 113, 118, 128, 135). -/
def Obligations.RcvReleasesTheHeldFrame : Prop :=
  ∀ s : State, s.hostState = .idle → s.pktValid = true → s.rxState = .validate →
    (∀ payload, validPayload s = some payload →
      exec .rcv s = .next { s with
        resp := some (.packet s.pktPayload s.pktNotif)
        pktValid := true, pktPayload := payload, pktNotif := s.rxNotif
        txOut := s.txOut ++ (if s.rxNotif = false ∧ s.noack = false ∧ s.fatal = .none then [0x2b] else [])
        acc := [], accOvf := false, rxNotif := false, ckHi := 0x00, ckLo := 0x00, rxState := .scanForStart }) ∧
    (validPayload s = none →
      exec .rcv s = .next { s with
        resp := some (.packet s.pktPayload s.pktNotif)
        pktValid := false, pktPayload := [], pktNotif := false
        txOut := s.txOut ++ (if s.rxNotif = false ∧ s.noack = false ∧ s.fatal = .none then [0x2d] else [])
        raised := s.raised ++ [.checksumMismatch]
        acc := [], accOvf := false, rxNotif := false, ckHi := 0x00, ckLo := 0x00, rxState := .scanForStart })

/-- R141 and R142: a notification in either mode, and a packet in no-ack mode, are emitted and completed at once. -/
def Obligations.SndWithoutAcknowledgment : Prop :=
  ∀ (s : State) (payload : Bytes) (notif : Bool), s.hostState = .idle → s.fatal = .none →
    capAdmits s.params.maxPayload payload.length = true → notif = true ∨ s.noack = true →
    exec (.snd payload notif) s = .next { s with
      resp := some (.bool true), txOut := s.txOut ++ frame payload notif }

/-- R143: a packet in ack mode is emitted once, kept as emitted, and the command waits. -/
def Obligations.SndWaitsForAcknowledgment : Prop :=
  ∀ (s : State) (payload : Bytes), s.hostState = .idle → s.fatal = .none → s.noack = false →
    capAdmits s.params.maxPayload payload.length = true →
    exec (.snd payload false) s = .next { s with
      resp := none, txOut := s.txOut ++ frame payload false
      pend := some (frame payload false), retryCnt := 0, hostState := .waitAck }

/-- R144: a `SND` on a broken connection. Basis: the spec's own D21 (entry 121). -/
def Obligations.SndOnBrokenConnection : Prop :=
  ∀ (s : State) (payload : Bytes) (notif : Bool), s.hostState = .idle → s.fatal ≠ .none →
    capAdmits s.params.maxPayload payload.length = true →
    exec (.snd payload notif) s = .next { s with resp := some (.bool false) }

/-- R145: a `SND` of a payload longer than `MAX_PAYLOAD` is refused; with `INF` the case does not arise. Basis: the
spec's own D26 (entry 126). -/
def Obligations.OversizeSndIsRefused : Prop :=
  ∀ (s : State) (payload : Bytes) (notif : Bool),
    (∀ n, s.params.maxPayload = .upTo n → n < payload.length →
      exec (.snd payload notif) s = .refused .oversizePayload) ∧
    (s.params.maxPayload = .inf → exec (.snd payload notif) s ≠ .refused .oversizePayload)

/-- R172 and R173: `PENDING_BREAK` reports `brk` and leaves it, `CLEAR_BREAK` clears it and pulses `brk_clr`, healthy
or broken; both are refused while a command is in progress. -/
def Obligations.BreakIsPolledAndCleared : Prop :=
  (∀ payload, decodeCommand 0x04 payload = .pendingBreak ∧ decodeCommand 0x05 payload = .clearBreak) ∧
  ∀ s : State,
    (s.hostState = .idle →
      exec .pendingBreak s = .next { s with resp := some (.bool s.brk) } ∧
      exec .clearBreak s = .next { s with brk := false, brkClr := true, resp := some .done }) ∧
    (s.hostState ≠ .idle →
      exec .pendingBreak s = .refused .hostBusy ∧ exec .clearBreak s = .refused .hostBusy)

/-- R132 and R165: `IS_RELIABLE` reports the transport's level, `SET_NOACK` sets the mode bit. Basis: the spec's own
D19, D20 (entries 119, 120). -/
def Obligations.SessionCommandsAnswerAtOnce : Prop :=
  ∀ s : State, s.hostState = .idle →
    exec .isReliable s = .next { s with resp := some (.bool s.params.reliable) } ∧
    exec .setNoack s = .next { s with noack := true, pend := none, resp := some .done }

/-- R82: which command words are reserved, and that a reserved word is refused in every state. Basis: the spec's own
D24 (entry 124). -/
def Obligations.ReservedCommandWordsAreRefused : Prop :=
  ∀ (w : Byte) (payload : Bytes),
    (decodeCommand w payload = .cmdReserved w ↔
      w.toNat % 16 = 0 ∨ 8 ≤ w.toNat % 16 ∨ 32 ≤ w.toNat ∨
        (w.getLsbD 4 = true ∧ w.toNat % 16 ≠ 1 ∧ w.toNat % 16 ≠ 3)) ∧
    ∀ s : State, exec (.cmdReserved w) s = .refused .reservedCommand

/-- R51 item 4: no event other than `RCV` and `RESET` takes or changes the packet in the slot. Basis: the spec's own
D13 (entry 113). -/
def Obligations.OnlyRcvAndResetEmptyTheSlot : Prop :=
  ∀ (i : Instr) (s t : State), exec i s = .next t → i ≠ .rcv → i ≠ .reset → s.pktValid = true →
    t.pktValid = true ∧ t.pktPayload = s.pktPayload ∧ t.pktNotif = s.pktNotif

/-! ## The acknowledgment machine -/

/-- R156: the peer's `+` completes the waiting `SND`. Basis: the spec's own D14 (entry 114). -/
def Obligations.AckPlusCompletesSnd : Prop :=
  ∀ s : State, s.fatal = .none → s.rxState = .scanForStart → s.hostState = .waitAck →
    exec .rxbAckPlus s = .next { s with
      pend := none, retryCnt := 0, resp := some (.bool true), hostState := .idle }

/-- R157, R158, R159: a `-` and a timeout retransmit the identical frame while retries are left, and end the
connection when none are. Basis: the spec's own D14, D16, D17, D29 (entries 114, 116, 117, 129). -/
def Obligations.NegativeEventsRetransmitOrExhaust : Prop :=
  ∀ (s : State) (f : Bytes), s.fatal = .none → s.hostState = .waitAck → s.pend = some f →
    (s.retryCnt < s.params.maxRetries →
      (s.rxState = .scanForStart →
        exec .rxbAckMinus s = .next { s with txOut := s.txOut ++ f, retryCnt := s.retryCnt + 1 }) ∧
      exec .ackTimeout s = .next { s with txOut := s.txOut ++ f, retryCnt := s.retryCnt + 1 }) ∧
    (s.params.maxRetries ≤ s.retryCnt →
      (s.rxState = .scanForStart →
        exec .rxbAckMinus s = .next { s with
          fatal := .retryExhausted, pend := none, retryCnt := 0, resp := some (.bool false), hostState := .idle
          raised := s.raised ++ [.retryExhausted] }) ∧
      exec .ackTimeout s = .next { s with
        fatal := .retryExhausted, pend := none, retryCnt := 0, resp := some (.bool false), hostState := .idle
        raised := s.raised ++ [.retryExhausted] })

/-- R158: over any run of `-` bytes and timeouts a frame is retransmitted once for each while retries are left, and
the event after the last retry ends the connection and retransmits nothing. Basis: the spec's own D14, D16, D17, D29
(entries 114, 116, 117, 129). -/
def Obligations.RetransmissionsAreBounded : Prop :=
  ∀ (s : State) (f : Bytes) (events : List Input), s.fatal = .none → s.rxState = .scanForStart →
    s.hostState = .waitAck → s.pend = some f → s.retryCnt ≤ s.params.maxRetries → s.inputs = events →
    (∀ e ∈ events, e = .rxByte 0x2d ∨ e = .strobe .ackTimeout) →
    (s.retryCnt + events.length ≤ s.params.maxRetries →
      ∃ t, run events.length s = .next t ∧
        t.txOut = s.txOut ++ (List.replicate events.length f).flatten ∧ t.retryCnt = s.retryCnt + events.length ∧
        t.hostState = .waitAck ∧ t.pend = some f ∧ t.fatal = .none) ∧
    (s.retryCnt + events.length = s.params.maxRetries + 1 →
      ∃ t, run events.length s = .next t ∧
        t.txOut = s.txOut ++ (List.replicate (s.params.maxRetries - s.retryCnt) f).flatten ∧ t.retryCnt = 0 ∧
        t.hostState = .idle ∧ t.resp = some (.bool false) ∧ t.pend = none ∧ t.fatal = .retryExhausted)

/-- R166, R117: in no-ack mode, while no acknowledgment is awaited, no event but `SND` emits anything, and no `SND`
waits. Basis: an inference the spec marks as its own. -/
def Obligations.NoAckModeIsSilent : Prop :=
  ∀ (i : Instr) (s t : State), isEventRow i = true → s.noack = true → s.hostState ≠ .waitAck →
    exec i s = .next t →
    match i with
    | .snd payload notif =>
      t.hostState = .idle ∧ t.txOut = s.txOut ++ (if s.fatal = .none then frame payload notif else [])
    | _ => t.txOut = s.txOut

/-- R167: `RELIABLE` has no effect on anything but the answer of `IS_RELIABLE`. Basis: the spec's own D20 (entry 120).
-/
def Obligations.ReliableLevelIsNotRead : Prop :=
  ∀ (i : Instr) (s : State) (v : Bool), i ≠ .isReliable →
    viewed (fun t => { t with params := { t.params with reliable := false } })
        (exec i { s with params := { s.params with reliable := v } }) =
      viewed (fun t => { t with params := { t.params with reliable := false } }) (exec i s)

/-! ## BREAK, strobes, errors and reset -/

/-- R174: no row but `PENDING_BREAK` reads `brk`, and that one only for its response; and a row other than `RESET`
that sets or clears `brk` moves nothing else but the response and the pulse of `CLEAR_BREAK`, so it emits nothing and
completes no waiting command. -/
def Obligations.BrkIsReadByItsPollOnly : Prop :=
  (∀ (i : Instr) (s : State) (v : Bool),
    (i ≠ .pendingBreak →
      viewed (fun t => { t with brk := false }) (exec i { s with brk := v }) =
        viewed (fun t => { t with brk := false }) (exec i s)) ∧
    viewed (fun t => { t with brk := false, resp := none }) (exec i { s with brk := v }) =
      viewed (fun t => { t with brk := false, resp := none }) (exec i s)) ∧
  ∀ (i : Instr) (s t : State), exec i s = .next t → i ≠ .reset → t.brk ≠ s.brk →
    { t with brk := s.brk, brkClr := s.brkClr, resp := s.resp } = s ∧
    (i ≠ .clearBreak → t.brkClr = s.brkClr ∧ t.resp = s.resp) ∧
    (s.hostState ≠ .idle → t.resp = s.resp)

/-- R183: `LINKFAIL` records the failure unless one is recorded, ends a waiting command with `Bool(0)`, and touches
nothing of the receive side. Basis: the spec's own D21, D22, D29 (entries 121, 122, 129). -/
def Obligations.LinkfailEndsTheConnection : Prop :=
  ∀ s : State,
    (s.fatal = .none → s.hostState = .idle →
      exec .linkfail s = .next { s with
        fatal := .transportFailure, raised := s.raised ++ [.transportFailure] }) ∧
    (s.fatal = .none → s.hostState ≠ .idle →
      exec .linkfail s = .next { s with
        fatal := .transportFailure, raised := s.raised ++ [.transportFailure]
        pend := none, retryCnt := 0, resp := some (.bool false), hostState := .idle }) ∧
    (s.fatal ≠ .none → s.hostState = .idle → exec .linkfail s = .next s) ∧
    (s.fatal ≠ .none → s.hostState ≠ .idle →
      exec .linkfail s = .next { s with
        pend := none, retryCnt := 0, resp := some (.bool false), hostState := .idle })

/-- R200 and R37: `RESET` puts every register at its reset value in every state and leaves `tx_out` and the
parameters; the state after reset is those values. (`raised`, `inputs` and `work` are the model's own fields, entries
1, 4 and 9.). Basis: the spec's own D27, D34 (entries 127, 134). -/
def Obligations.ResetRestoresEveryRegister : Prop :=
  (∀ s : State, exec .reset s = .next { s with
    rxState := .scanForStart, ckCnt := false, rxNotif := false, acc := [], accOvf := false, ckHi := 0x00, ckLo := 0x00
    pktValid := false, pktPayload := [], pktNotif := false, noack := false, brk := false, pend := none, retryCnt := 0
    hostState := .idle, resp := none, fatal := .none, work := Work.fresh }) ∧
  exec .reset State.reset = .next State.reset ∧ statusWord State.reset = 0x4000

/-- R185: the block on a broken connection. Basis: the spec's own D21, D35 (entries 121, 135). -/
def Obligations.BrokenConnectionIsInert : Prop :=
  ∀ s : State, s.fatal ≠ .none →
    rxReady s = true ∧
    (∀ b, exec (.rxbFatalDiscard b) s = .next s) ∧
    (s.hostState = .idle →
      (∀ block, exec (.available block) s = .next { s with resp := some (.bool s.pktValid) }) ∧
      exec .ackTimeout s = .refused .ackTimerNotRunning ∧
      exec .linkfail s = .next s) ∧
    ∀ i t, exec i s = .next t → t.txOut = s.txOut ∧ (i ≠ .reset → t.fatal = s.fatal)

/-- R205: a block that holds a frame while its `SND` waits is moved by `ACK_TIMEOUT`, `LINKFAIL` and `RESET` alone;
`BRKIN` sets `brk` and leaves it stalled. Basis: the spec's own D13, D17 (entries 113, 117) and an inference the spec
marks as its own. -/
def Obligations.StalledBlockMovesOnlyByStrobe : Prop :=
  ∀ s : State, s.fatal = .none → s.hostState = .waitAck → s.rxState = .validate →
    (∃ t, exec .ackTimeout s = .next t) ∧ (∃ t, exec .linkfail s = .next t) ∧ (∃ t, exec .reset s = .next t) ∧
    ∀ i t, isEventRow i = true → exec i s = .next t →
      i = .ackTimeout ∨ i = .linkfail ∨ i = .reset ∨ (i = .brkin ∧ t = { s with brk := true })

/-! ## The transmit stream and the response port -/

/-- R31, R70, R71, R114, R115 row by row: what the transmitter hands to the transport. Basis: the spec's own D22
(entry 122). -/
def Obligations.TransmitRowsEmit : Prop :=
  ∀ s : State,
    exec .txAckPlus s = .next { s with txOut := s.txOut ++
      (if s.rxNotif = false ∧ s.noack = false ∧ s.fatal = .none then [0x2b] else []) } ∧
    exec .txAckMinus s = .next { s with txOut := s.txOut ++
      (if s.rxNotif = false ∧ s.noack = false ∧ s.fatal = .none then [0x2d] else []) } ∧
    (∀ payload notif, exec (.txFrame payload notif) s = .next { s with txOut := s.txOut ++
      (if s.fatal = .none then
        [if notif = true then 0x25 else 0x24] ++ esc payload ++ [0x23] ++ hex2 (sum8 payload)
      else []) }) ∧
    ∀ b, exec (.txEscapedByte b) s = .next { s with txOut := s.txOut ++
      (if s.fatal = .none then [0x7d, b ^^^ 0x20] else []) }

/-- R22 and R79 row by row: `Respond`. Basis: the spec's own D18, D24 (entries 118, 124). -/
def Obligations.ResponseRowsRespond : Prop :=
  ∀ s : State,
    exec .respDone s = .next { s with resp := some .done, hostState := .idle } ∧
    (∀ v, exec (.respBool v) s = .next { s with resp := some (.bool v), hostState := .idle }) ∧
    (∀ payload notif, exec (.respPacket payload notif) s =
      .next { s with resp := some (.packet payload notif), hostState := .idle }) ∧
    ∀ code, exec (.respError code) s = .next { s with resp := some (.error code), hostState := .idle }

/-- R24, R31, R42: `tx_out` only grows, and one event appends one acknowledgment, one frame or nothing. Basis: the
spec's own D22 (entry 122). -/
def Obligations.TransmitRecordOnlyGrows : Prop :=
  ∀ (i : Instr) (s t : State), exec i s = .next t →
    ∃ out, t.txOut = s.txOut ++ out ∧
      (isEventRow i = true →
        out = [] ∨ out = [0x2b] ∨ out = [0x2d] ∨ s.pend = some out ∨
          ∃ payload notif, i = .snd payload notif ∧ out = frame payload notif)

/-! ## Invariants and whole-machine rules -/

/-- R29: the invariant holds after reset, with any parameters. Basis: the spec's own D27 (entry 127) and an inference
the spec marks as its own. -/
def Obligations.ResetMeetsTheInvariant : Prop :=
  Consistent State.reset ∧ ∀ p : Params, Consistent (State.start p)

/-- R29 items 1 to 7 and 9, U10 and R54: every step keeps the invariant, from every state that has it. Basis: an
inference the spec marks as its own. -/
def Obligations.StepKeepsTheInvariant : Prop :=
  ∀ s t : State, Consistent s → step s = .next t → Consistent t

/-- R29 item 8, R166, R23: `noack` and `fatal` are one-way until `RESET`, and each is written by the events the rules
name. Basis: the spec's own D16, D17, D21 (entries 116, 117, 121) and an inference the spec marks as its own. -/
def Obligations.ModeAndFatalAreOneWay : Prop :=
  ∀ (i : Instr) (s t : State), exec i s = .next t → i ≠ .reset →
    (s.noack = true → t.noack = true) ∧ (s.noack = false → t.noack = true → i = .setNoack) ∧
    (s.fatal ≠ .none → t.fatal = s.fatal) ∧
    (s.fatal = .none → t.fatal = .transportFailure → i = .linkfail) ∧
    (s.fatal = .none → t.fatal = .retryExhausted → i = .rxbAckMinus ∨ i = .ackTimeout)

/-- R26: each flag is set and cleared by the events of the table and by no other. Basis: an inference the spec marks
as its own. -/
def Obligations.FlagsAreWrittenAsListed : Prop :=
  ∀ (i : Instr) (s t : State), exec i s = .next t →
    (s.pktValid = false → t.pktValid = true → ∃ b, i = .rxbChecksumLo b) ∧
    (s.pktValid = true → t.pktValid = false → i = .rcv ∨ i = .reset) ∧
    (t.pktNotif ≠ s.pktNotif → (∃ b, i = .rxbChecksumLo b) ∨ i = .rcv ∨ i = .reset) ∧
    (s.rxNotif = false → t.rxNotif = true → i = .rxbStartNotification) ∧
    (s.rxNotif = true → t.rxNotif = false →
      i = .rxbStartPacket ∨ (∃ b, i = .rxbChecksumLo b) ∨ i = .rcv ∨ i = .reset) ∧
    (s.accOvf = false → t.accOvf = true → ∃ b, i = .rxbPayloadByte b) ∧
    (s.accOvf = true → t.accOvf = false →
      i = .rxbStartPacket ∨ i = .rxbStartNotification ∨ (∃ b, i = .rxbChecksumLo b) ∨ i = .rcv ∨ i = .reset) ∧
    (s.noack = false → t.noack = true → i = .setNoack) ∧ (s.noack = true → t.noack = false → i = .reset) ∧
    (s.brk = false → t.brk = true → i = .rxbBreakTap ∨ i = .brkin) ∧
    (s.brk = true → t.brk = false → i = .clearBreak ∨ i = .reset)
end

