-- ==== Sys2Proof/Laws/State.lean ====
section
/-! SUPPORT. One lemma per field per named update: what each shared operation leaves unchanged, and the plain values it
writes. Later proofs cite these and unfold no record update. -/

namespace Sys2Proof.Machine

/-! ### `emit` -/

@[simp] theorem emit_rxState (bytes : Bytes) (s : State) : (emit bytes s).rxState = s.rxState := by unfold emit; split <;> rfl
@[simp] theorem emit_ckCnt (bytes : Bytes) (s : State) : (emit bytes s).ckCnt = s.ckCnt := by unfold emit; split <;> rfl
@[simp] theorem emit_rxNotif (bytes : Bytes) (s : State) : (emit bytes s).rxNotif = s.rxNotif := by unfold emit; split <;> rfl
@[simp] theorem emit_acc (bytes : Bytes) (s : State) : (emit bytes s).acc = s.acc := by unfold emit; split <;> rfl
@[simp] theorem emit_accOvf (bytes : Bytes) (s : State) : (emit bytes s).accOvf = s.accOvf := by unfold emit; split <;> rfl
@[simp] theorem emit_ckHi (bytes : Bytes) (s : State) : (emit bytes s).ckHi = s.ckHi := by unfold emit; split <;> rfl
@[simp] theorem emit_ckLo (bytes : Bytes) (s : State) : (emit bytes s).ckLo = s.ckLo := by unfold emit; split <;> rfl
@[simp] theorem emit_pktValid (bytes : Bytes) (s : State) : (emit bytes s).pktValid = s.pktValid := by unfold emit; split <;> rfl
@[simp] theorem emit_pktPayload (bytes : Bytes) (s : State) : (emit bytes s).pktPayload = s.pktPayload := by unfold emit; split <;> rfl
@[simp] theorem emit_pktNotif (bytes : Bytes) (s : State) : (emit bytes s).pktNotif = s.pktNotif := by unfold emit; split <;> rfl
@[simp] theorem emit_noack (bytes : Bytes) (s : State) : (emit bytes s).noack = s.noack := by unfold emit; split <;> rfl
@[simp] theorem emit_brk (bytes : Bytes) (s : State) : (emit bytes s).brk = s.brk := by unfold emit; split <;> rfl
@[simp] theorem emit_pend (bytes : Bytes) (s : State) : (emit bytes s).pend = s.pend := by unfold emit; split <;> rfl
@[simp] theorem emit_retryCnt (bytes : Bytes) (s : State) : (emit bytes s).retryCnt = s.retryCnt := by unfold emit; split <;> rfl
@[simp] theorem emit_hostState (bytes : Bytes) (s : State) : (emit bytes s).hostState = s.hostState := by unfold emit; split <;> rfl
@[simp] theorem emit_resp (bytes : Bytes) (s : State) : (emit bytes s).resp = s.resp := by unfold emit; split <;> rfl
@[simp] theorem emit_fatal (bytes : Bytes) (s : State) : (emit bytes s).fatal = s.fatal := by unfold emit; split <;> rfl
@[simp] theorem emit_brkClr (bytes : Bytes) (s : State) : (emit bytes s).brkClr = s.brkClr := by unfold emit; split <;> rfl
@[simp] theorem emit_params (bytes : Bytes) (s : State) : (emit bytes s).params = s.params := by unfold emit; split <;> rfl
@[simp] theorem emit_raised (bytes : Bytes) (s : State) : (emit bytes s).raised = s.raised := by unfold emit; split <;> rfl
@[simp] theorem emit_work (bytes : Bytes) (s : State) : (emit bytes s).work = s.work := by unfold emit; split <;> rfl
@[simp] theorem emit_inputs (bytes : Bytes) (s : State) : (emit bytes s).inputs = s.inputs := by unfold emit; split <;> rfl
@[simp] theorem emit_txOut (bytes : Bytes) (s : State) :
    (emit bytes s).txOut = s.txOut ++ (if broken s then [] else bytes) := by unfold emit; split <;> simp

/-! ### `respond` -/

@[simp] theorem respond_rxState (v : Response) (s : State) : (respond v s).rxState = s.rxState := rfl
@[simp] theorem respond_ckCnt (v : Response) (s : State) : (respond v s).ckCnt = s.ckCnt := rfl
@[simp] theorem respond_rxNotif (v : Response) (s : State) : (respond v s).rxNotif = s.rxNotif := rfl
@[simp] theorem respond_acc (v : Response) (s : State) : (respond v s).acc = s.acc := rfl
@[simp] theorem respond_accOvf (v : Response) (s : State) : (respond v s).accOvf = s.accOvf := rfl
@[simp] theorem respond_ckHi (v : Response) (s : State) : (respond v s).ckHi = s.ckHi := rfl
@[simp] theorem respond_ckLo (v : Response) (s : State) : (respond v s).ckLo = s.ckLo := rfl
@[simp] theorem respond_pktValid (v : Response) (s : State) : (respond v s).pktValid = s.pktValid := rfl
@[simp] theorem respond_pktPayload (v : Response) (s : State) : (respond v s).pktPayload = s.pktPayload := rfl
@[simp] theorem respond_pktNotif (v : Response) (s : State) : (respond v s).pktNotif = s.pktNotif := rfl
@[simp] theorem respond_noack (v : Response) (s : State) : (respond v s).noack = s.noack := rfl
@[simp] theorem respond_brk (v : Response) (s : State) : (respond v s).brk = s.brk := rfl
@[simp] theorem respond_pend (v : Response) (s : State) : (respond v s).pend = s.pend := rfl
@[simp] theorem respond_retryCnt (v : Response) (s : State) : (respond v s).retryCnt = s.retryCnt := rfl
@[simp] theorem respond_fatal (v : Response) (s : State) : (respond v s).fatal = s.fatal := rfl
@[simp] theorem respond_txOut (v : Response) (s : State) : (respond v s).txOut = s.txOut := rfl
@[simp] theorem respond_brkClr (v : Response) (s : State) : (respond v s).brkClr = s.brkClr := rfl
@[simp] theorem respond_params (v : Response) (s : State) : (respond v s).params = s.params := rfl
@[simp] theorem respond_raised (v : Response) (s : State) : (respond v s).raised = s.raised := rfl
@[simp] theorem respond_work (v : Response) (s : State) : (respond v s).work = s.work := rfl
@[simp] theorem respond_inputs (v : Response) (s : State) : (respond v s).inputs = s.inputs := rfl
@[simp] theorem respond_resp (v : Response) (s : State) : (respond v s).resp = some v := rfl
@[simp] theorem respond_hostState (v : Response) (s : State) : (respond v s).hostState = .idle := rfl

/-! ### `setFatal` -/

@[simp] theorem setFatal_rxState (f : Fatal) (s : State) : (setFatal f s).rxState = s.rxState := by unfold setFatal; split <;> rfl
@[simp] theorem setFatal_ckCnt (f : Fatal) (s : State) : (setFatal f s).ckCnt = s.ckCnt := by unfold setFatal; split <;> rfl
@[simp] theorem setFatal_rxNotif (f : Fatal) (s : State) : (setFatal f s).rxNotif = s.rxNotif := by unfold setFatal; split <;> rfl
@[simp] theorem setFatal_acc (f : Fatal) (s : State) : (setFatal f s).acc = s.acc := by unfold setFatal; split <;> rfl
@[simp] theorem setFatal_accOvf (f : Fatal) (s : State) : (setFatal f s).accOvf = s.accOvf := by unfold setFatal; split <;> rfl
@[simp] theorem setFatal_ckHi (f : Fatal) (s : State) : (setFatal f s).ckHi = s.ckHi := by unfold setFatal; split <;> rfl
@[simp] theorem setFatal_ckLo (f : Fatal) (s : State) : (setFatal f s).ckLo = s.ckLo := by unfold setFatal; split <;> rfl
@[simp] theorem setFatal_pktValid (f : Fatal) (s : State) : (setFatal f s).pktValid = s.pktValid := by unfold setFatal; split <;> rfl
@[simp] theorem setFatal_pktPayload (f : Fatal) (s : State) : (setFatal f s).pktPayload = s.pktPayload := by unfold setFatal; split <;> rfl
@[simp] theorem setFatal_pktNotif (f : Fatal) (s : State) : (setFatal f s).pktNotif = s.pktNotif := by unfold setFatal; split <;> rfl
@[simp] theorem setFatal_noack (f : Fatal) (s : State) : (setFatal f s).noack = s.noack := by unfold setFatal; split <;> rfl
@[simp] theorem setFatal_brk (f : Fatal) (s : State) : (setFatal f s).brk = s.brk := by unfold setFatal; split <;> rfl
@[simp] theorem setFatal_pend (f : Fatal) (s : State) : (setFatal f s).pend = s.pend := by unfold setFatal; split <;> rfl
@[simp] theorem setFatal_retryCnt (f : Fatal) (s : State) : (setFatal f s).retryCnt = s.retryCnt := by unfold setFatal; split <;> rfl
@[simp] theorem setFatal_hostState (f : Fatal) (s : State) : (setFatal f s).hostState = s.hostState := by unfold setFatal; split <;> rfl
@[simp] theorem setFatal_resp (f : Fatal) (s : State) : (setFatal f s).resp = s.resp := by unfold setFatal; split <;> rfl
@[simp] theorem setFatal_txOut (f : Fatal) (s : State) : (setFatal f s).txOut = s.txOut := by unfold setFatal; split <;> rfl
@[simp] theorem setFatal_brkClr (f : Fatal) (s : State) : (setFatal f s).brkClr = s.brkClr := by unfold setFatal; split <;> rfl
@[simp] theorem setFatal_params (f : Fatal) (s : State) : (setFatal f s).params = s.params := by unfold setFatal; split <;> rfl
@[simp] theorem setFatal_raised (f : Fatal) (s : State) : (setFatal f s).raised = s.raised := by unfold setFatal; split <;> rfl
@[simp] theorem setFatal_work (f : Fatal) (s : State) : (setFatal f s).work = s.work := by unfold setFatal; split <;> rfl
@[simp] theorem setFatal_inputs (f : Fatal) (s : State) : (setFatal f s).inputs = s.inputs := by unfold setFatal; split <;> rfl
@[simp] theorem setFatal_fatal (f : Fatal) (s : State) :
    (setFatal f s).fatal = if broken s then s.fatal else f := by unfold setFatal; split <;> rfl

/-! ### `raiseError` -/

@[simp] theorem raiseError_rxState (e : RspError) (s : State) : (raiseError e s).rxState = s.rxState := by cases e <;> simp [raiseError]
@[simp] theorem raiseError_ckCnt (e : RspError) (s : State) : (raiseError e s).ckCnt = s.ckCnt := by cases e <;> simp [raiseError]
@[simp] theorem raiseError_rxNotif (e : RspError) (s : State) : (raiseError e s).rxNotif = s.rxNotif := by cases e <;> simp [raiseError]
@[simp] theorem raiseError_acc (e : RspError) (s : State) : (raiseError e s).acc = s.acc := by cases e <;> simp [raiseError]
@[simp] theorem raiseError_accOvf (e : RspError) (s : State) : (raiseError e s).accOvf = s.accOvf := by cases e <;> simp [raiseError]
@[simp] theorem raiseError_ckHi (e : RspError) (s : State) : (raiseError e s).ckHi = s.ckHi := by cases e <;> simp [raiseError]
@[simp] theorem raiseError_ckLo (e : RspError) (s : State) : (raiseError e s).ckLo = s.ckLo := by cases e <;> simp [raiseError]
@[simp] theorem raiseError_pktValid (e : RspError) (s : State) : (raiseError e s).pktValid = s.pktValid := by cases e <;> simp [raiseError]
@[simp] theorem raiseError_pktPayload (e : RspError) (s : State) : (raiseError e s).pktPayload = s.pktPayload := by cases e <;> simp [raiseError]
@[simp] theorem raiseError_pktNotif (e : RspError) (s : State) : (raiseError e s).pktNotif = s.pktNotif := by cases e <;> simp [raiseError]
@[simp] theorem raiseError_noack (e : RspError) (s : State) : (raiseError e s).noack = s.noack := by cases e <;> simp [raiseError]
@[simp] theorem raiseError_brk (e : RspError) (s : State) : (raiseError e s).brk = s.brk := by cases e <;> simp [raiseError]
@[simp] theorem raiseError_pend (e : RspError) (s : State) : (raiseError e s).pend = s.pend := by cases e <;> simp [raiseError]
@[simp] theorem raiseError_retryCnt (e : RspError) (s : State) : (raiseError e s).retryCnt = s.retryCnt := by cases e <;> simp [raiseError]
@[simp] theorem raiseError_txOut (e : RspError) (s : State) : (raiseError e s).txOut = s.txOut := by cases e <;> simp [raiseError]
@[simp] theorem raiseError_brkClr (e : RspError) (s : State) : (raiseError e s).brkClr = s.brkClr := by cases e <;> simp [raiseError]
@[simp] theorem raiseError_params (e : RspError) (s : State) : (raiseError e s).params = s.params := by cases e <;> simp [raiseError]
@[simp] theorem raiseError_work (e : RspError) (s : State) : (raiseError e s).work = s.work := by cases e <;> simp [raiseError]
@[simp] theorem raiseError_inputs (e : RspError) (s : State) : (raiseError e s).inputs = s.inputs := by cases e <;> simp [raiseError]
@[simp] theorem raiseError_raised (e : RspError) (s : State) :
    (raiseError e s).raised = s.raised ++ [e] := by cases e <;> simp [raiseError]

/-! ### `resetRegisters` -/

@[simp] theorem resetRegisters_txOut (s : State) : (resetRegisters s).txOut = s.txOut := rfl
@[simp] theorem resetRegisters_brkClr (s : State) : (resetRegisters s).brkClr = s.brkClr := rfl
@[simp] theorem resetRegisters_params (s : State) : (resetRegisters s).params = s.params := rfl
@[simp] theorem resetRegisters_raised (s : State) : (resetRegisters s).raised = s.raised := rfl
@[simp] theorem resetRegisters_inputs (s : State) : (resetRegisters s).inputs = s.inputs := rfl

/-! ### `emitAck` -/

@[simp] theorem emitAck_rxState (b : Byte) (s : State) : (emitAck b s).rxState = s.rxState := by unfold emitAck; split <;> simp
@[simp] theorem emitAck_ckCnt (b : Byte) (s : State) : (emitAck b s).ckCnt = s.ckCnt := by unfold emitAck; split <;> simp
@[simp] theorem emitAck_rxNotif (b : Byte) (s : State) : (emitAck b s).rxNotif = s.rxNotif := by unfold emitAck; split <;> simp
@[simp] theorem emitAck_acc (b : Byte) (s : State) : (emitAck b s).acc = s.acc := by unfold emitAck; split <;> simp
@[simp] theorem emitAck_accOvf (b : Byte) (s : State) : (emitAck b s).accOvf = s.accOvf := by unfold emitAck; split <;> simp
@[simp] theorem emitAck_ckHi (b : Byte) (s : State) : (emitAck b s).ckHi = s.ckHi := by unfold emitAck; split <;> simp
@[simp] theorem emitAck_ckLo (b : Byte) (s : State) : (emitAck b s).ckLo = s.ckLo := by unfold emitAck; split <;> simp
@[simp] theorem emitAck_pktValid (b : Byte) (s : State) : (emitAck b s).pktValid = s.pktValid := by unfold emitAck; split <;> simp
@[simp] theorem emitAck_pktPayload (b : Byte) (s : State) : (emitAck b s).pktPayload = s.pktPayload := by unfold emitAck; split <;> simp
@[simp] theorem emitAck_pktNotif (b : Byte) (s : State) : (emitAck b s).pktNotif = s.pktNotif := by unfold emitAck; split <;> simp
@[simp] theorem emitAck_noack (b : Byte) (s : State) : (emitAck b s).noack = s.noack := by unfold emitAck; split <;> simp
@[simp] theorem emitAck_brk (b : Byte) (s : State) : (emitAck b s).brk = s.brk := by unfold emitAck; split <;> simp
@[simp] theorem emitAck_pend (b : Byte) (s : State) : (emitAck b s).pend = s.pend := by unfold emitAck; split <;> simp
@[simp] theorem emitAck_retryCnt (b : Byte) (s : State) : (emitAck b s).retryCnt = s.retryCnt := by unfold emitAck; split <;> simp
@[simp] theorem emitAck_hostState (b : Byte) (s : State) : (emitAck b s).hostState = s.hostState := by unfold emitAck; split <;> simp
@[simp] theorem emitAck_resp (b : Byte) (s : State) : (emitAck b s).resp = s.resp := by unfold emitAck; split <;> simp
@[simp] theorem emitAck_fatal (b : Byte) (s : State) : (emitAck b s).fatal = s.fatal := by unfold emitAck; split <;> simp
@[simp] theorem emitAck_brkClr (b : Byte) (s : State) : (emitAck b s).brkClr = s.brkClr := by unfold emitAck; split <;> simp
@[simp] theorem emitAck_params (b : Byte) (s : State) : (emitAck b s).params = s.params := by unfold emitAck; split <;> simp
@[simp] theorem emitAck_raised (b : Byte) (s : State) : (emitAck b s).raised = s.raised := by unfold emitAck; split <;> simp
@[simp] theorem emitAck_work (b : Byte) (s : State) : (emitAck b s).work = s.work := by unfold emitAck; split <;> simp
@[simp] theorem emitAck_inputs (b : Byte) (s : State) : (emitAck b s).inputs = s.inputs := by unfold emitAck; split <;> simp
@[simp] theorem emitAck_txOut (b : Byte) (s : State) :
    (emitAck b s).txOut = s.txOut ++ (if ackDue s && !broken s then [b] else []) := by
  unfold emitAck emit; cases ackDue s <;> cases broken s <;> simp

/-! ### `completeAvailable` -/

@[simp] theorem completeAvailable_rxState (s : State) : (completeAvailable s).rxState = s.rxState := by unfold completeAvailable; split <;> simp
@[simp] theorem completeAvailable_ckCnt (s : State) : (completeAvailable s).ckCnt = s.ckCnt := by unfold completeAvailable; split <;> simp
@[simp] theorem completeAvailable_rxNotif (s : State) : (completeAvailable s).rxNotif = s.rxNotif := by unfold completeAvailable; split <;> simp
@[simp] theorem completeAvailable_acc (s : State) : (completeAvailable s).acc = s.acc := by unfold completeAvailable; split <;> simp
@[simp] theorem completeAvailable_accOvf (s : State) : (completeAvailable s).accOvf = s.accOvf := by unfold completeAvailable; split <;> simp
@[simp] theorem completeAvailable_ckHi (s : State) : (completeAvailable s).ckHi = s.ckHi := by unfold completeAvailable; split <;> simp
@[simp] theorem completeAvailable_ckLo (s : State) : (completeAvailable s).ckLo = s.ckLo := by unfold completeAvailable; split <;> simp
@[simp] theorem completeAvailable_pktValid (s : State) : (completeAvailable s).pktValid = s.pktValid := by unfold completeAvailable; split <;> simp
@[simp] theorem completeAvailable_pktPayload (s : State) : (completeAvailable s).pktPayload = s.pktPayload := by unfold completeAvailable; split <;> simp
@[simp] theorem completeAvailable_pktNotif (s : State) : (completeAvailable s).pktNotif = s.pktNotif := by unfold completeAvailable; split <;> simp
@[simp] theorem completeAvailable_noack (s : State) : (completeAvailable s).noack = s.noack := by unfold completeAvailable; split <;> simp
@[simp] theorem completeAvailable_brk (s : State) : (completeAvailable s).brk = s.brk := by unfold completeAvailable; split <;> simp
@[simp] theorem completeAvailable_pend (s : State) : (completeAvailable s).pend = s.pend := by unfold completeAvailable; split <;> simp
@[simp] theorem completeAvailable_retryCnt (s : State) : (completeAvailable s).retryCnt = s.retryCnt := by unfold completeAvailable; split <;> simp
@[simp] theorem completeAvailable_fatal (s : State) : (completeAvailable s).fatal = s.fatal := by unfold completeAvailable; split <;> simp
@[simp] theorem completeAvailable_txOut (s : State) : (completeAvailable s).txOut = s.txOut := by unfold completeAvailable; split <;> simp
@[simp] theorem completeAvailable_brkClr (s : State) : (completeAvailable s).brkClr = s.brkClr := by unfold completeAvailable; split <;> simp
@[simp] theorem completeAvailable_params (s : State) : (completeAvailable s).params = s.params := by unfold completeAvailable; split <;> simp
@[simp] theorem completeAvailable_raised (s : State) : (completeAvailable s).raised = s.raised := by unfold completeAvailable; split <;> simp
@[simp] theorem completeAvailable_work (s : State) : (completeAvailable s).work = s.work := by unfold completeAvailable; split <;> simp
@[simp] theorem completeAvailable_inputs (s : State) : (completeAvailable s).inputs = s.inputs := by unfold completeAvailable; split <;> simp
@[simp] theorem completeAvailable_hostState (s : State) :
    (completeAvailable s).hostState = if s.hostState = .waitAvail then .idle else s.hostState := by
  unfold completeAvailable; split <;> simp_all
@[simp] theorem completeAvailable_resp (s : State) :
    (completeAvailable s).resp = if s.hostState = .waitAvail then some (.bool true) else s.resp := by
  unfold completeAvailable; split <;> simp_all

/-! ### `deliver` -/

@[simp] theorem deliver_rxState (payload : Bytes) (s : State) : (deliver payload s).rxState = s.rxState := by simp [deliver]
@[simp] theorem deliver_ckCnt (payload : Bytes) (s : State) : (deliver payload s).ckCnt = s.ckCnt := by simp [deliver]
@[simp] theorem deliver_rxNotif (payload : Bytes) (s : State) : (deliver payload s).rxNotif = s.rxNotif := by simp [deliver]
@[simp] theorem deliver_acc (payload : Bytes) (s : State) : (deliver payload s).acc = s.acc := by simp [deliver]
@[simp] theorem deliver_accOvf (payload : Bytes) (s : State) : (deliver payload s).accOvf = s.accOvf := by simp [deliver]
@[simp] theorem deliver_ckHi (payload : Bytes) (s : State) : (deliver payload s).ckHi = s.ckHi := by simp [deliver]
@[simp] theorem deliver_ckLo (payload : Bytes) (s : State) : (deliver payload s).ckLo = s.ckLo := by simp [deliver]
@[simp] theorem deliver_noack (payload : Bytes) (s : State) : (deliver payload s).noack = s.noack := by simp [deliver]
@[simp] theorem deliver_brk (payload : Bytes) (s : State) : (deliver payload s).brk = s.brk := by simp [deliver]
@[simp] theorem deliver_pend (payload : Bytes) (s : State) : (deliver payload s).pend = s.pend := by simp [deliver]
@[simp] theorem deliver_retryCnt (payload : Bytes) (s : State) : (deliver payload s).retryCnt = s.retryCnt := by simp [deliver]
@[simp] theorem deliver_fatal (payload : Bytes) (s : State) : (deliver payload s).fatal = s.fatal := by simp [deliver]
@[simp] theorem deliver_brkClr (payload : Bytes) (s : State) : (deliver payload s).brkClr = s.brkClr := by simp [deliver]
@[simp] theorem deliver_params (payload : Bytes) (s : State) : (deliver payload s).params = s.params := by simp [deliver]
@[simp] theorem deliver_raised (payload : Bytes) (s : State) : (deliver payload s).raised = s.raised := by simp [deliver]
@[simp] theorem deliver_work (payload : Bytes) (s : State) : (deliver payload s).work = s.work := by simp [deliver]
@[simp] theorem deliver_inputs (payload : Bytes) (s : State) : (deliver payload s).inputs = s.inputs := by simp [deliver]
@[simp] theorem deliver_pktValid (payload : Bytes) (s : State) : (deliver payload s).pktValid = true := by simp [deliver]
@[simp] theorem deliver_pktPayload (payload : Bytes) (s : State) : (deliver payload s).pktPayload = payload := by simp [deliver]
@[simp] theorem deliver_pktNotif (payload : Bytes) (s : State) : (deliver payload s).pktNotif = s.rxNotif := by simp [deliver]

/-! ### `reject` -/

@[simp] theorem reject_rxState (s : State) : (reject s).rxState = s.rxState := by simp [reject]
@[simp] theorem reject_ckCnt (s : State) : (reject s).ckCnt = s.ckCnt := by simp [reject]
@[simp] theorem reject_rxNotif (s : State) : (reject s).rxNotif = s.rxNotif := by simp [reject]
@[simp] theorem reject_acc (s : State) : (reject s).acc = s.acc := by simp [reject]
@[simp] theorem reject_accOvf (s : State) : (reject s).accOvf = s.accOvf := by simp [reject]
@[simp] theorem reject_ckHi (s : State) : (reject s).ckHi = s.ckHi := by simp [reject]
@[simp] theorem reject_ckLo (s : State) : (reject s).ckLo = s.ckLo := by simp [reject]
@[simp] theorem reject_pktValid (s : State) : (reject s).pktValid = s.pktValid := by simp [reject]
@[simp] theorem reject_pktPayload (s : State) : (reject s).pktPayload = s.pktPayload := by simp [reject]
@[simp] theorem reject_pktNotif (s : State) : (reject s).pktNotif = s.pktNotif := by simp [reject]
@[simp] theorem reject_noack (s : State) : (reject s).noack = s.noack := by simp [reject]
@[simp] theorem reject_brk (s : State) : (reject s).brk = s.brk := by simp [reject]
@[simp] theorem reject_pend (s : State) : (reject s).pend = s.pend := by simp [reject]
@[simp] theorem reject_retryCnt (s : State) : (reject s).retryCnt = s.retryCnt := by simp [reject]
@[simp] theorem reject_hostState (s : State) : (reject s).hostState = s.hostState := by simp [reject, raiseError]
@[simp] theorem reject_resp (s : State) : (reject s).resp = s.resp := by simp [reject, raiseError]
@[simp] theorem reject_fatal (s : State) : (reject s).fatal = s.fatal := by simp [reject, raiseError]
@[simp] theorem reject_brkClr (s : State) : (reject s).brkClr = s.brkClr := by simp [reject]
@[simp] theorem reject_params (s : State) : (reject s).params = s.params := by simp [reject]
@[simp] theorem reject_work (s : State) : (reject s).work = s.work := by simp [reject]
@[simp] theorem reject_inputs (s : State) : (reject s).inputs = s.inputs := by simp [reject]
@[simp] theorem reject_raised (s : State) : (reject s).raised = s.raised ++ [.checksumMismatch] := by simp [reject]

/-! ### `cleanup` -/

@[simp] theorem cleanup_ckCnt (s : State) : (cleanup s).ckCnt = s.ckCnt := rfl
@[simp] theorem cleanup_pktValid (s : State) : (cleanup s).pktValid = s.pktValid := rfl
@[simp] theorem cleanup_pktPayload (s : State) : (cleanup s).pktPayload = s.pktPayload := rfl
@[simp] theorem cleanup_pktNotif (s : State) : (cleanup s).pktNotif = s.pktNotif := rfl
@[simp] theorem cleanup_noack (s : State) : (cleanup s).noack = s.noack := rfl
@[simp] theorem cleanup_brk (s : State) : (cleanup s).brk = s.brk := rfl
@[simp] theorem cleanup_pend (s : State) : (cleanup s).pend = s.pend := rfl
@[simp] theorem cleanup_retryCnt (s : State) : (cleanup s).retryCnt = s.retryCnt := rfl
@[simp] theorem cleanup_hostState (s : State) : (cleanup s).hostState = s.hostState := rfl
@[simp] theorem cleanup_resp (s : State) : (cleanup s).resp = s.resp := rfl
@[simp] theorem cleanup_fatal (s : State) : (cleanup s).fatal = s.fatal := rfl
@[simp] theorem cleanup_txOut (s : State) : (cleanup s).txOut = s.txOut := rfl
@[simp] theorem cleanup_brkClr (s : State) : (cleanup s).brkClr = s.brkClr := rfl
@[simp] theorem cleanup_params (s : State) : (cleanup s).params = s.params := rfl
@[simp] theorem cleanup_raised (s : State) : (cleanup s).raised = s.raised := rfl
@[simp] theorem cleanup_work (s : State) : (cleanup s).work = s.work := rfl
@[simp] theorem cleanup_inputs (s : State) : (cleanup s).inputs = s.inputs := rfl
@[simp] theorem cleanup_rxState (s : State) : (cleanup s).rxState = .scanForStart := rfl
@[simp] theorem cleanup_acc (s : State) : (cleanup s).acc = [] := rfl
@[simp] theorem cleanup_accOvf (s : State) : (cleanup s).accOvf = false := rfl
@[simp] theorem cleanup_rxNotif (s : State) : (cleanup s).rxNotif = false := rfl
@[simp] theorem cleanup_ckHi (s : State) : (cleanup s).ckHi = 0x00 := rfl
@[simp] theorem cleanup_ckLo (s : State) : (cleanup s).ckLo = 0x00 := rfl

/-! ### `tryValidate` -/

@[simp] theorem tryValidate_ckCnt (s : State) : (tryValidate s).ckCnt = s.ckCnt := by unfold tryValidate; (repeat' split) <;> simp
@[simp] theorem tryValidate_noack (s : State) : (tryValidate s).noack = s.noack := by unfold tryValidate; (repeat' split) <;> simp
@[simp] theorem tryValidate_brk (s : State) : (tryValidate s).brk = s.brk := by unfold tryValidate; (repeat' split) <;> simp
@[simp] theorem tryValidate_pend (s : State) : (tryValidate s).pend = s.pend := by unfold tryValidate; (repeat' split) <;> simp
@[simp] theorem tryValidate_retryCnt (s : State) : (tryValidate s).retryCnt = s.retryCnt := by unfold tryValidate; (repeat' split) <;> simp
@[simp] theorem tryValidate_fatal (s : State) : (tryValidate s).fatal = s.fatal := by unfold tryValidate; (repeat' split) <;> simp
@[simp] theorem tryValidate_brkClr (s : State) : (tryValidate s).brkClr = s.brkClr := by unfold tryValidate; (repeat' split) <;> simp
@[simp] theorem tryValidate_params (s : State) : (tryValidate s).params = s.params := by unfold tryValidate; (repeat' split) <;> simp
@[simp] theorem tryValidate_work (s : State) : (tryValidate s).work = s.work := by unfold tryValidate; (repeat' split) <;> simp
@[simp] theorem tryValidate_inputs (s : State) : (tryValidate s).inputs = s.inputs := by unfold tryValidate; (repeat' split) <;> simp

/-! ### `negativeEvent` -/

@[simp] theorem negativeEvent_rxState (s : State) : (negativeEvent s).rxState = s.rxState := by unfold negativeEvent; split <;> simp
@[simp] theorem negativeEvent_ckCnt (s : State) : (negativeEvent s).ckCnt = s.ckCnt := by unfold negativeEvent; split <;> simp
@[simp] theorem negativeEvent_rxNotif (s : State) : (negativeEvent s).rxNotif = s.rxNotif := by unfold negativeEvent; split <;> simp
@[simp] theorem negativeEvent_acc (s : State) : (negativeEvent s).acc = s.acc := by unfold negativeEvent; split <;> simp
@[simp] theorem negativeEvent_accOvf (s : State) : (negativeEvent s).accOvf = s.accOvf := by unfold negativeEvent; split <;> simp
@[simp] theorem negativeEvent_ckHi (s : State) : (negativeEvent s).ckHi = s.ckHi := by unfold negativeEvent; split <;> simp
@[simp] theorem negativeEvent_ckLo (s : State) : (negativeEvent s).ckLo = s.ckLo := by unfold negativeEvent; split <;> simp
@[simp] theorem negativeEvent_pktValid (s : State) : (negativeEvent s).pktValid = s.pktValid := by unfold negativeEvent; split <;> simp
@[simp] theorem negativeEvent_pktPayload (s : State) : (negativeEvent s).pktPayload = s.pktPayload := by unfold negativeEvent; split <;> simp
@[simp] theorem negativeEvent_pktNotif (s : State) : (negativeEvent s).pktNotif = s.pktNotif := by unfold negativeEvent; split <;> simp
@[simp] theorem negativeEvent_noack (s : State) : (negativeEvent s).noack = s.noack := by unfold negativeEvent; split <;> simp
@[simp] theorem negativeEvent_brk (s : State) : (negativeEvent s).brk = s.brk := by unfold negativeEvent; split <;> simp
@[simp] theorem negativeEvent_brkClr (s : State) : (negativeEvent s).brkClr = s.brkClr := by unfold negativeEvent; split <;> simp
@[simp] theorem negativeEvent_params (s : State) : (negativeEvent s).params = s.params := by unfold negativeEvent; split <;> simp
@[simp] theorem negativeEvent_work (s : State) : (negativeEvent s).work = s.work := by unfold negativeEvent; split <;> simp
@[simp] theorem negativeEvent_inputs (s : State) : (negativeEvent s).inputs = s.inputs := by unfold negativeEvent; split <;> simp

/-! ### `taken` -/

@[simp] theorem taken_rxState (rest : List Input) (s : State) : (taken rest s).rxState = s.rxState := rfl
@[simp] theorem taken_ckCnt (rest : List Input) (s : State) : (taken rest s).ckCnt = s.ckCnt := rfl
@[simp] theorem taken_rxNotif (rest : List Input) (s : State) : (taken rest s).rxNotif = s.rxNotif := rfl
@[simp] theorem taken_acc (rest : List Input) (s : State) : (taken rest s).acc = s.acc := rfl
@[simp] theorem taken_accOvf (rest : List Input) (s : State) : (taken rest s).accOvf = s.accOvf := rfl
@[simp] theorem taken_ckHi (rest : List Input) (s : State) : (taken rest s).ckHi = s.ckHi := rfl
@[simp] theorem taken_ckLo (rest : List Input) (s : State) : (taken rest s).ckLo = s.ckLo := rfl
@[simp] theorem taken_pktValid (rest : List Input) (s : State) : (taken rest s).pktValid = s.pktValid := rfl
@[simp] theorem taken_pktPayload (rest : List Input) (s : State) : (taken rest s).pktPayload = s.pktPayload := rfl
@[simp] theorem taken_pktNotif (rest : List Input) (s : State) : (taken rest s).pktNotif = s.pktNotif := rfl
@[simp] theorem taken_noack (rest : List Input) (s : State) : (taken rest s).noack = s.noack := rfl
@[simp] theorem taken_brk (rest : List Input) (s : State) : (taken rest s).brk = s.brk := rfl
@[simp] theorem taken_pend (rest : List Input) (s : State) : (taken rest s).pend = s.pend := rfl
@[simp] theorem taken_retryCnt (rest : List Input) (s : State) : (taken rest s).retryCnt = s.retryCnt := rfl
@[simp] theorem taken_hostState (rest : List Input) (s : State) : (taken rest s).hostState = s.hostState := rfl
@[simp] theorem taken_resp (rest : List Input) (s : State) : (taken rest s).resp = s.resp := rfl
@[simp] theorem taken_fatal (rest : List Input) (s : State) : (taken rest s).fatal = s.fatal := rfl
@[simp] theorem taken_txOut (rest : List Input) (s : State) : (taken rest s).txOut = s.txOut := rfl
@[simp] theorem taken_params (rest : List Input) (s : State) : (taken rest s).params = s.params := rfl
@[simp] theorem taken_raised (rest : List Input) (s : State) : (taken rest s).raised = s.raised := rfl
@[simp] theorem taken_work (rest : List Input) (s : State) : (taken rest s).work = s.work := rfl
@[simp] theorem taken_inputs (rest : List Input) (s : State) : (taken rest s).inputs = rest := rfl
@[simp] theorem taken_brkClr (rest : List Input) (s : State) : (taken rest s).brkClr = false := rfl

end Sys2Proof.Machine
end

