-- ==== Sys2Proof/Laws/Ops.lean ====
section
/-! SUPPORT. What each shared operation can do, said once: inversion lemmas for the guards, the validation procedure, the
negative acknowledgment event, `exec` by shape, and the step. -/

namespace Sys2Proof.Machine

/-! ### Flags -/

theorem broken_eq_false (s : State) : broken s = false ↔ s.fatal = .none := by
  cases h : s.fatal <;> simp [broken, h]

theorem broken_eq_true (s : State) : broken s = true ↔ s.fatal ≠ .none := by
  cases h : s.fatal <;> simp [broken, h]

theorem rxReady_eq_false (s : State) : rxReady s = false ↔ s.fatal = .none ∧ s.rxState = .validate := by
  cases h : s.fatal <;> cases h' : s.rxState <;> simp [rxReady, h, h']

@[simp] theorem capAdmits_zero (c : Capacity) : capAdmits c 0 = true := by cases c <;> simp [capAdmits]

/-- A capacity admits every smaller length too. -/
theorem capAdmits_mono {c : Capacity} {m n : Nat} (hm : m ≤ n) (h : capAdmits c n = true) : capAdmits c m = true := by
  cases c <;> simp_all [capAdmits]
  omega

/-- Room for one byte more is what `capAdmits` says of the longer buffer. -/
theorem capHasRoom_eq (c : Capacity) (n : Nat) : capHasRoom c n = capAdmits c (n + 1) := by
  cases c with
  | inf => rfl
  | upTo m => simp [capHasRoom, capAdmits]

/-- The validity predicate reads only the frame in progress and `MAX_PAYLOAD`. -/
theorem validPayload_congr {s t : State} (h1 : t.accOvf = s.accOvf) (h2 : t.ckHi = s.ckHi) (h3 : t.ckLo = s.ckLo)
    (h4 : t.acc = s.acc) (h5 : t.params = s.params) : validPayload t = validPayload s := by
  simp [validPayload, h1, h2, h3, h4, h5]

/-- A valid payload fits the slot (R112 item 6). -/
theorem validPayload_fits {s : State} {payload : Bytes} (h : validPayload s = some payload) :
    capAdmits s.params.maxPayload payload.length = true := by
  unfold validPayload at h
  repeat' split at h
  all_goals simp_all

/-! ### Guards -/

/-- When a receive-framer row answers a next state, its row is selected and the state is its effect. -/
theorem onRow_eq_next {i : Instr} {s t u : State} :
    onRow i s t = .next u ↔ rowSelected (rxContext s) i = true ∧ u = t := by
  unfold onRow
  cases h : rowSelected (rxContext s) i
  · cases rxReady s <;> simp
  · simp [eq_comm]

/-- When a host command answers a next state, none was in progress. -/
theorem onCommand_eq_next {s u : State} {effect : State → State} :
    onCommand s effect = .next u ↔ s.hostState = .idle ∧ u = effect { s with resp := none } := by
  unfold onCommand
  by_cases h : s.hostState = .idle <;> simp [h, eq_comm]

theorem rowSelected_breakTap (s : State) :
    rowSelected (rxContext s) .rxbBreakTap = true ↔ s.fatal = .none ∧ s.rxState ≠ .validate := by
  simp [rowSelected, rxContext, broken_eq_false]

theorem rowSelected_startPacket (s : State) :
    rowSelected (rxContext s) .rxbStartPacket = true ↔ s.fatal = .none ∧ s.rxState = .scanForStart := by
  simp [rowSelected, rxContext, broken_eq_false]

theorem rowSelected_startNotification (s : State) :
    rowSelected (rxContext s) .rxbStartNotification = true ↔ s.fatal = .none ∧ s.rxState = .scanForStart := by
  simp [rowSelected, rxContext, broken_eq_false]

theorem rowSelected_ackPlus (s : State) :
    rowSelected (rxContext s) .rxbAckPlus = true ↔
      (s.fatal = .none ∧ s.rxState = .scanForStart) ∧ s.hostState = .waitAck := by
  simp [rowSelected, rxContext, broken_eq_false]

theorem rowSelected_ackMinus (s : State) :
    rowSelected (rxContext s) .rxbAckMinus = true ↔
      (s.fatal = .none ∧ s.rxState = .scanForStart) ∧ s.hostState = .waitAck := by
  simp [rowSelected, rxContext, broken_eq_false]

theorem rowSelected_discard (s : State) (b : Byte) :
    rowSelected (rxContext s) (.rxbDiscard b) = true ↔
      (((s.fatal = .none ∧ s.rxState = .scanForStart) ∧ b ≠ chDollar) ∧ b ≠ chPercent) ∧
        (b = chPlus ∨ b = chMinus → s.hostState ≠ .waitAck) := by
  simp [rowSelected, rxContext, broken_eq_false]
  tauto

theorem rowSelected_endPayload (s : State) :
    rowSelected (rxContext s) .rxbEndPayload = true ↔ s.fatal = .none ∧ s.rxState = .accumulatePayload := by
  simp [rowSelected, rxContext, broken_eq_false]

theorem rowSelected_payloadByte (s : State) (b : Byte) :
    rowSelected (rxContext s) (.rxbPayloadByte b) = true ↔
      (s.fatal = .none ∧ s.rxState = .accumulatePayload) ∧ b ≠ chHash := by
  simp [rowSelected, rxContext, broken_eq_false]

theorem rowSelected_checksumHi (s : State) (b : Byte) :
    rowSelected (rxContext s) (.rxbChecksumHi b) = true ↔
      (s.fatal = .none ∧ s.rxState = .readChecksum) ∧ s.ckCnt = false := by
  simp [rowSelected, rxContext, broken_eq_false]

theorem rowSelected_checksumLo (s : State) (b : Byte) :
    rowSelected (rxContext s) (.rxbChecksumLo b) = true ↔
      (s.fatal = .none ∧ s.rxState = .readChecksum) ∧ s.ckCnt = true := by
  simp [rowSelected, rxContext, broken_eq_false]

theorem rowSelected_fatalDiscard (s : State) (b : Byte) :
    rowSelected (rxContext s) (.rxbFatalDiscard b) = true ↔ s.fatal ≠ .none := by
  simp [rowSelected, rxContext, broken_eq_true]

/-! ### Procedures -/

/-- `Emit`, written out (R31). -/
theorem emit_eq (bytes : Bytes) (s : State) :
    emit bytes s = { s with txOut := s.txOut ++ (if broken s then [] else bytes) } := by
  cases h : broken s <;> simp [emit, h]

/-- The acknowledgment of a frame, written out (R114, R115). -/
theorem emitAck_eq (b : Byte) (s : State) :
    emitAck b s = { s with txOut := s.txOut ++ (if ackDue s && !broken s then [b] else []) } := by
  cases h : ackDue s <;> cases hb : broken s <;> simp [emitAck, emit_eq, h, hb]

/-- The completion of a waiting `AVAILABLE`, written out (R123). -/
theorem completeAvailable_eq (s : State) :
    completeAvailable s = { s with
      resp := if s.hostState = .waitAvail then some (.bool true) else s.resp
      hostState := if s.hostState = .waitAvail then .idle else s.hostState } := by
  by_cases h : s.hostState = .waitAvail <;> simp [completeAvailable, respond, h]

/-- A rejection, written out (R115): the error is recorded, and a `-` goes out when one is due. -/
theorem reject_eq (s : State) :
    reject s = { s with
      raised := s.raised ++ [.checksumMismatch]
      txOut := s.txOut ++ (if ackDue s && !broken s then [chMinus] else []) } := by
  simp [reject, raiseError, emitAck_eq, ackDue, broken]

/-- A delivery, written out (R113, R114, R123). -/
theorem deliver_eq (payload : Bytes) (s : State) :
    deliver payload s = { s with
      pktValid := true, pktPayload := payload, pktNotif := s.rxNotif
      txOut := s.txOut ++ (if ackDue s && !broken s then [chPlus] else [])
      resp := if s.hostState = .waitAvail then some (.bool true) else s.resp
      hostState := if s.hostState = .waitAvail then .idle else s.hostState } := by
  simp [deliver, completeAvailable_eq, emitAck_eq, ackDue, broken]

/-- The validation of a valid frame, written out (R110, R113, R114, R122, R123). -/
theorem tryValidate_valid {s : State} {payload : Bytes} (h1 : s.rxState = .validate) (h2 : s.pktValid = false)
    (h3 : validPayload s = some payload) :
    tryValidate s = { s with
      pktValid := true, pktPayload := payload, pktNotif := s.rxNotif
      txOut := s.txOut ++ (if ackDue s && !broken s then [chPlus] else [])
      resp := if s.hostState = .waitAvail then some (.bool true) else s.resp
      hostState := if s.hostState = .waitAvail then .idle else s.hostState
      acc := [], accOvf := false, rxNotif := false, ckHi := 0x00, ckLo := 0x00, rxState := .scanForStart } := by
  rw [tryValidate, if_neg (by simp [h1]), if_neg (by simp [h2]), h3]
  simp only [deliver_eq, cleanup]

/-- The validation of an invalid frame, written out (R110, R115, R122). -/
theorem tryValidate_invalid {s : State} (h1 : s.rxState = .validate) (h2 : s.pktValid = false)
    (h3 : validPayload s = none) :
    tryValidate s = { s with
      raised := s.raised ++ [.checksumMismatch]
      txOut := s.txOut ++ (if ackDue s && !broken s then [chMinus] else [])
      acc := [], accOvf := false, rxNotif := false, ckHi := 0x00, ckLo := 0x00, rxState := .scanForStart } := by
  rw [tryValidate, if_neg (by simp [h1]), if_neg (by simp [h2]), h3]
  simp only [reject_eq, cleanup]

/-- Everything `TryValidate` can do (R110): nothing to validate or a hold, a delivery, or a rejection. -/
theorem tryValidate_cases (s : State) :
    (¬ (s.rxState = .validate ∧ s.pktValid = false) ∧ tryValidate s = s) ∨
    (s.rxState = .validate ∧ s.pktValid = false ∧ ∃ payload, validPayload s = some payload ∧
      tryValidate s = { s with
        pktValid := true, pktPayload := payload, pktNotif := s.rxNotif
        txOut := s.txOut ++ (if ackDue s && !broken s then [chPlus] else [])
        resp := if s.hostState = .waitAvail then some (.bool true) else s.resp
        hostState := if s.hostState = .waitAvail then .idle else s.hostState
        acc := [], accOvf := false, rxNotif := false, ckHi := 0x00, ckLo := 0x00, rxState := .scanForStart }) ∨
    (s.rxState = .validate ∧ s.pktValid = false ∧ validPayload s = none ∧
      tryValidate s = { s with
        raised := s.raised ++ [.checksumMismatch]
        txOut := s.txOut ++ (if ackDue s && !broken s then [chMinus] else [])
        acc := [], accOvf := false, rxNotif := false, ckHi := 0x00, ckLo := 0x00, rxState := .scanForStart }) := by
  by_cases h : s.rxState = .validate
  · by_cases hv : s.pktValid = true
    · exact .inl ⟨by simp [hv], by simp [tryValidate, hv]⟩
    · have hv' := Bool.eq_false_of_not_eq_true hv
      cases hp : validPayload s with
      | none => exact .inr (.inr ⟨h, hv', rfl, tryValidate_invalid h hv' hp⟩)
      | some payload => exact .inr (.inl ⟨h, hv', payload, rfl, tryValidate_valid h hv' hp⟩)
  · exact .inl ⟨fun c => h c.1, by simp [tryValidate, h]⟩

/-- Everything `NegativeEvent` can do (R158): a retransmission, or the end of the connection. -/
theorem negativeEvent_cases (s : State) :
    (s.retryCnt < s.params.maxRetries ∧
      negativeEvent s = { s with
        txOut := s.txOut ++ (if broken s then [] else s.pend.getD []), retryCnt := s.retryCnt + 1 }) ∨
    (s.params.maxRetries ≤ s.retryCnt ∧
      negativeEvent s = { s with
        raised := s.raised ++ [.retryExhausted], fatal := if broken s then s.fatal else .retryExhausted
        pend := none, retryCnt := 0, resp := some (.bool false), hostState := .idle }) := by
  by_cases h : s.retryCnt < s.params.maxRetries
  · left
    refine ⟨h, ?_⟩
    simp only [negativeEvent, h, if_true, emit]
    cases broken s <;> simp
  · right
    refine ⟨Nat.le_of_not_lt h, ?_⟩
    simp only [negativeEvent, h, if_false, raiseError, setFatal, respond]
    cases hb : s.fatal <;> simp [broken, hb]

/-! ### The step -/

theorem step_nil {s : State} (h : s.inputs = []) : step s = .next { s with brkClr := false } := by
  cases s
  simp_all [step, stepOnce, taken]

/-- What a step with an input does: the input's rows, run on the state in which it is taken. -/
theorem step_cons {s : State} {input : Input} {rest : List Input} (h : s.inputs = input :: rest) :
    step s = match decode (rxContext s) input with
      | .error e => .refused (rejectInput e)
      | .ok rows => runRows rows (taken rest s) := by
  cases hd : decode (rxContext s) input <;> simp only [step, stepOnce, h, hd]

@[simp] theorem runRows_nil (s : State) : runRows [] s = .next s := rfl

theorem runRows_cons (i : Instr) (rest : List Instr) (s : State) :
    runRows (i :: rest) s = match exec i s with
      | .next s' => runRows rest s'
      | .fault f => .fault f
      | .refused r => .refused r := rfl

/-- One row alone is `exec` of it. -/
@[simp] theorem runRows_one (i : Instr) (s : State) : runRows [i] s = exec i s := by
  rw [runRows_cons]
  cases exec i s <;> rfl

/-- A run that answers a next state after a first row did so through that row's next state. -/
theorem runRows_cons_eq_next {i : Instr} {rest : List Instr} {s t : State} :
    runRows (i :: rest) s = .next t ↔ ∃ u, exec i s = .next u ∧ runRows rest u = .next t := by
  rw [runRows_cons]
  cases exec i s <;> simp

end Sys2Proof.Machine
end

