-- ==== Sys2Proof/Laws/Exec.lean ====
section
/-! SUPPORT. Everything `exec` can do when it answers a next state, said once as one relation with one constructor per case,
so that a statement over all rows is proved by `cases exec_effect h`. -/

namespace Sys2Proof.Machine

/-- The cases of `exec` that end in a next state, the next state written out in each. -/
inductive Effect : Instr → State → State → Prop
  | breakTap {s : State} (h1 : s.fatal = .none) (h2 : s.rxState ≠ .validate) :
    Effect .rxbBreakTap s { s with brk := true }
  | startPacket {s : State} (h1 : s.fatal = .none) (h2 : s.rxState = .scanForStart) :
    Effect .rxbStartPacket s
      { s with rxNotif := false, acc := [], accOvf := false, rxState := .accumulatePayload }
  | startNotification {s : State} (h1 : s.fatal = .none) (h2 : s.rxState = .scanForStart) :
    Effect .rxbStartNotification s
      { s with rxNotif := true, acc := [], accOvf := false, rxState := .accumulatePayload }
  | ackPlus {s : State} (h1 : s.fatal = .none) (h2 : s.rxState = .scanForStart) (h3 : s.hostState = .waitAck) :
    Effect .rxbAckPlus s
      { s with pend := none, retryCnt := 0, resp := some (.bool true), hostState := .idle }
  | retransmit {i : Instr} {s : State} (h1 : i = .rxbAckMinus ∧ s.fatal = .none ∧ s.rxState = .scanForStart ∨ i = .ackTimeout)
    (h2 : s.hostState = .waitAck) (h3 : s.retryCnt < s.params.maxRetries) :
    Effect i s
      { s with txOut := s.txOut ++ (if broken s then [] else s.pend.getD []), retryCnt := s.retryCnt + 1 }
  | exhaust {i : Instr} {s : State} (h1 : i = .rxbAckMinus ∧ s.fatal = .none ∧ s.rxState = .scanForStart ∨ i = .ackTimeout)
    (h2 : s.hostState = .waitAck) (h3 : s.params.maxRetries ≤ s.retryCnt) :
    Effect i s
      { s with
        raised := s.raised ++ [.retryExhausted], fatal := if broken s then s.fatal else .retryExhausted
        pend := none, retryCnt := 0, resp := some (.bool false), hostState := .idle }
  | discard {s : State} {b : Byte} (h1 : s.fatal = .none) (h2 : s.rxState = .scanForStart) (h3 : b ≠ chDollar)
    (h4 : b ≠ chPercent) (h5 : b = chPlus ∨ b = chMinus → s.hostState ≠ .waitAck) :
    Effect (.rxbDiscard b) s s
  | endPayload {s : State} (h1 : s.fatal = .none) (h2 : s.rxState = .accumulatePayload) :
    Effect .rxbEndPayload s { s with rxState := .readChecksum, ckCnt := false }
  | payloadByte {s : State} {b : Byte} (h1 : s.fatal = .none) (h2 : s.rxState = .accumulatePayload) (h3 : b ≠ chHash)
    (h4 : capAdmits s.params.maxWire (s.acc.length + 1) = true) :
    Effect (.rxbPayloadByte b) s { s with acc := s.acc ++ [b] }
  | payloadByteFull {s : State} {b : Byte} (h1 : s.fatal = .none) (h2 : s.rxState = .accumulatePayload)
    (h3 : b ≠ chHash) (h4 : capAdmits s.params.maxWire (s.acc.length + 1) = false) :
    Effect (.rxbPayloadByte b) s { s with accOvf := true }
  | checksumHi {s : State} {b : Byte} (h1 : s.fatal = .none) (h2 : s.rxState = .readChecksum) (h3 : s.ckCnt = false) :
    Effect (.rxbChecksumHi b) s { s with ckHi := b, ckCnt := true }
  | frameHeld {s : State} {b : Byte} (h1 : s.fatal = .none) (h2 : s.rxState = .readChecksum) (h3 : s.ckCnt = true)
    (h4 : s.pktValid = true) :
    Effect (.rxbChecksumLo b) s { s with ckLo := b, ckCnt := false, rxState := .validate }
  | frameValid {s : State} {b : Byte} {payload : Bytes} (h1 : s.fatal = .none) (h2 : s.rxState = .readChecksum)
    (h3 : s.ckCnt = true) (h4 : s.pktValid = false) (h5 : validPayload { s with ckLo := b } = some payload) :
    Effect (.rxbChecksumLo b) s
      { s with
        pktValid := true, pktPayload := payload, pktNotif := s.rxNotif
        txOut := s.txOut ++ (if ackDue s && !broken s then [chPlus] else [])
        resp := if s.hostState = .waitAvail then some (.bool true) else s.resp
        hostState := if s.hostState = .waitAvail then .idle else s.hostState
        ckCnt := false, acc := [], accOvf := false, rxNotif := false, ckHi := 0x00, ckLo := 0x00
        rxState := .scanForStart }
  | frameInvalid {s : State} {b : Byte} (h1 : s.fatal = .none) (h2 : s.rxState = .readChecksum) (h3 : s.ckCnt = true)
    (h4 : s.pktValid = false) (h5 : validPayload { s with ckLo := b } = none) :
    Effect (.rxbChecksumLo b) s
      { s with
        raised := s.raised ++ [.checksumMismatch]
        txOut := s.txOut ++ (if ackDue s && !broken s then [chMinus] else [])
        ckCnt := false, acc := [], accOvf := false, rxNotif := false, ckHi := 0x00, ckLo := 0x00
        rxState := .scanForStart }
  | fatalDiscard {s : State} {b : Byte} (h1 : s.fatal ≠ .none) : Effect (.rxbFatalDiscard b) s s
  | wireForm {i : Instr} {s : State} {w : Work} {bytes : Bytes} (h1 : encode i = .wireForm bytes) :
    Effect i s { s with work := w }
  | checksumChar {i : Instr} {s : State} {w : Work} {b : Byte} (h1 : encode i = .checksumChar b) :
    Effect i s { s with work := w }
  | availableReady {s : State} {block : Bool} (h1 : s.hostState = .idle) (h2 : s.pktValid = true) :
    Effect (.available block) s { s with resp := some (.bool true) }
  | availableNot {s : State} {block : Bool} (h1 : s.hostState = .idle) (h2 : s.pktValid = false)
    (h3 : block = false ∨ s.fatal ≠ .none) :
    Effect (.available block) s { s with resp := some (.bool false) }
  | availableWaits {s : State} (h1 : s.hostState = .idle) (h2 : s.pktValid = false) (h3 : s.fatal = .none) :
    Effect (.available true) s { s with resp := none, hostState := .waitAvail }
  | rcvEmpty {s : State} (h1 : s.hostState = .idle) (h2 : s.pktValid = false) :
    Effect .rcv s
      { s with resp := some (.error .protocolStateError), raised := s.raised ++ [.protocolStateError] }
  | rcvPacket {s : State} (h1 : s.hostState = .idle) (h2 : s.pktValid = true) (h3 : s.rxState ≠ .validate) :
    Effect .rcv s
      { s with
        resp := some (.packet s.pktPayload s.pktNotif), pktValid := false, pktPayload := [], pktNotif := false }
  | rcvHeldValid {s : State} {payload : Bytes} (h1 : s.hostState = .idle) (h2 : s.pktValid = true)
    (h3 : s.rxState = .validate) (h4 : validPayload s = some payload) :
    Effect .rcv s
      { s with
        resp := some (.packet s.pktPayload s.pktNotif), pktValid := true, pktPayload := payload, pktNotif := s.rxNotif
        txOut := s.txOut ++ (if ackDue s && !broken s then [chPlus] else [])
        acc := [], accOvf := false, rxNotif := false, ckHi := 0x00, ckLo := 0x00, rxState := .scanForStart }
  | rcvHeldInvalid {s : State} (h1 : s.hostState = .idle) (h2 : s.pktValid = true) (h3 : s.rxState = .validate)
    (h4 : validPayload s = none) :
    Effect .rcv s
      { s with
        resp := some (.packet s.pktPayload s.pktNotif), pktValid := false, pktPayload := [], pktNotif := false
        raised := s.raised ++ [.checksumMismatch]
        txOut := s.txOut ++ (if ackDue s && !broken s then [chMinus] else [])
        acc := [], accOvf := false, rxNotif := false, ckHi := 0x00, ckLo := 0x00, rxState := .scanForStart }
  | sndBroken {s : State} {payload : Bytes} {notif : Bool} (h1 : s.hostState = .idle)
    (h2 : capAdmits s.params.maxPayload payload.length = true) (h3 : s.fatal ≠ .none) :
    Effect (.snd payload notif) s { s with resp := some (.bool false) }
  | sndAtOnce {s : State} {payload : Bytes} {notif : Bool} (h1 : s.hostState = .idle)
    (h2 : capAdmits s.params.maxPayload payload.length = true) (h3 : s.fatal = .none)
    (h4 : notif = true ∨ s.noack = true) :
    Effect (.snd payload notif) s { s with resp := some (.bool true), txOut := s.txOut ++ frame payload notif }
  | sndWaits {s : State} {payload : Bytes} (h1 : s.hostState = .idle)
    (h2 : capAdmits s.params.maxPayload payload.length = true) (h3 : s.fatal = .none) (h4 : s.noack = false) :
    Effect (.snd payload false) s
      { s with
        resp := none, txOut := s.txOut ++ frame payload false, pend := some (frame payload false), retryCnt := 0
        hostState := .waitAck }
  | pendingBreak {s : State} (h1 : s.hostState = .idle) : Effect .pendingBreak s { s with resp := some (.bool s.brk) }
  | clearBreak {s : State} (h1 : s.hostState = .idle) :
    Effect .clearBreak s { s with brk := false, brkClr := true, resp := some .done }
  | isReliable {s : State} (h1 : s.hostState = .idle) :
    Effect .isReliable s { s with resp := some (.bool s.params.reliable) }
  | setNoack {s : State} (h1 : s.hostState = .idle) :
    Effect .setNoack s { s with noack := true, pend := none, resp := some .done }
  | brkin {s : State} : Effect .brkin s { s with brk := true }
  | linkfailFirst {s : State} (h1 : s.hostState = .idle) (h2 : s.fatal = .none) :
    Effect .linkfail s { s with fatal := .transportFailure, raised := s.raised ++ [.transportFailure] }
  | linkfailWaiting {s : State} (h1 : s.hostState ≠ .idle) (h2 : s.fatal = .none) :
    Effect .linkfail s
      { s with
        fatal := .transportFailure, raised := s.raised ++ [.transportFailure]
        pend := none, retryCnt := 0, resp := some (.bool false), hostState := .idle }
  | linkfailAgain {s : State} (h1 : s.hostState = .idle) (h2 : s.fatal ≠ .none) : Effect .linkfail s s
  | linkfailAgainWaiting {s : State} (h1 : s.hostState ≠ .idle) (h2 : s.fatal ≠ .none) :
    Effect .linkfail s { s with pend := none, retryCnt := 0, resp := some (.bool false), hostState := .idle }
  | reset {s : State} :
    Effect .reset s
      { State.start s.params with txOut := s.txOut, raised := s.raised, brkClr := s.brkClr, inputs := s.inputs }
  | transmit {i : Instr} {s : State} {bytes : Bytes} (h1 : encode i = .transmit bytes) :
    Effect i s { s with txOut := s.txOut ++ (if broken s then [] else bytes) }
  | transmitNotDue {i : Instr} {s : State} (h1 : i = .txAckPlus ∨ i = .txAckMinus) (h2 : ackDue s = false) :
    Effect i s s
  | response {i : Instr} {s : State} {v : Response} (h1 : encode i = .response (responseWord v) (responsePayload v)) :
    Effect i s { s with resp := some v, hostState := .idle }

theorem negativeEvent_effect {i : Instr} {s : State}
    (h1 : i = .rxbAckMinus ∧ s.fatal = .none ∧ s.rxState = .scanForStart ∨ i = .ackTimeout)
    (h2 : s.hostState = .waitAck) : Effect i s (negativeEvent s) := by
  rcases negativeEvent_cases s with ⟨h, e⟩ | ⟨h, e⟩ <;> rw [e]
  · exact .retransmit h1 h2 h
  · exact .exhaust h1 h2 h

theorem emitAck_effect {i : Instr} {s : State} {b : Byte} (h1 : i = .txAckPlus ∨ i = .txAckMinus)
    (h2 : encode i = .transmit [b]) : Effect i s (emitAck b s) := by
  unfold emitAck
  split
  · rw [emit_eq]; exact .transmit h2
  · exact .transmitNotDue h1 (Bool.eq_false_of_not_eq_true ‹_›)

theorem execRxb_effect {i : Instr} {s t u : State} (h : onRow i s t = .next u)
    (he : rowSelected (rxContext s) i = true → Effect i s t) : Effect i s u := by
  obtain ⟨hs, rfl⟩ := onRow_eq_next.mp h
  exact he hs

theorem execRxbChecksumLo_effect {b : Byte} {s t : State} (h : execRxbChecksumLo b s = .next t) :
    Effect (.rxbChecksumLo b) s t := by
  refine execRxb_effect h fun hs => ?_
  obtain ⟨⟨h1, h2⟩, h3⟩ := (rowSelected_checksumLo s b).mp hs
  have hv : validPayload { s with ckLo := b, ckCnt := false, rxState := .validate } = validPayload { s with ckLo := b } :=
    validPayload_congr rfl rfl rfl rfl rfl
  rcases tryValidate_cases { s with ckLo := b, ckCnt := false, rxState := .validate } with
    ⟨hn, e⟩ | ⟨_, hp, payload, hv', e⟩ | ⟨_, hp, hv', e⟩ <;> rw [e]
  · exact .frameHeld h1 h2 h3 (by simpa using hn)
  · exact .frameValid h1 h2 h3 hp (hv ▸ hv')
  · exact .frameInvalid h1 h2 h3 hp (hv ▸ hv')

theorem execRcv_effect {s t : State} (h : execRcv s = .next t) : Effect .rcv s t := by
  obtain ⟨h1, rfl⟩ := onCommand_eq_next.mp h
  by_cases h2 : s.pktValid = true
  · rw [if_pos (by exact h2)]
    simp only [respond]
    have hv : validPayload { s with
        resp := some (.packet s.pktPayload s.pktNotif), hostState := .idle, pktValid := false, pktPayload := []
        pktNotif := false } = validPayload s := validPayload_congr rfl rfl rfl rfl rfl
    rcases tryValidate_cases { s with
        resp := some (.packet s.pktPayload s.pktNotif), hostState := .idle, pktValid := false, pktPayload := []
        pktNotif := false } with ⟨hn, e⟩ | ⟨hr, _, payload, hv', e⟩ | ⟨hr, _, hv', e⟩ <;> rw [e]
    · rw [← h1]; exact .rcvPacket h1 h2 (by simpa using hn)
    · simp only [reduceCtorEq, if_false]
      rw [← h1]; exact .rcvHeldValid h1 h2 hr (hv ▸ hv')
    · rw [← h1]; exact .rcvHeldInvalid h1 h2 hr (hv ▸ hv')
  · rw [if_neg (by exact h2)]
    simp only [raiseError, respond]
    rw [← h1]; exact .rcvEmpty h1 (Bool.eq_false_of_not_eq_true h2)

theorem execAvailable_effect {block : Bool} {s t : State} (h : execAvailable block s = .next t) :
    Effect (.available block) s t := by
  obtain ⟨h1, rfl⟩ := onCommand_eq_next.mp h
  by_cases h2 : s.pktValid = true
  · rw [if_pos (by exact h2)]
    simp only [respond]
    rw [← h1]; exact .availableReady h1 h2
  · have h2' := Bool.eq_false_of_not_eq_true h2
    by_cases h3 : block = false ∨ broken s = true
    · rw [if_neg (by exact h2), if_pos (by exact h3)]
      simp only [respond]
      rw [← h1]; exact .availableNot h1 h2' (h3.imp id (broken_eq_true s).mp)
    · rw [if_neg (by exact h2), if_neg (by exact h3)]
      obtain ⟨h4, h5⟩ := not_or.mp h3
      obtain rfl : block = true := by simpa using h4
      exact .availableWaits h1 h2' ((broken_eq_false s).mp (Bool.eq_false_of_not_eq_true h5))

theorem execSnd_effect {payload : Bytes} {notif : Bool} {s t : State} (h : execSnd payload notif s = .next t) :
    Effect (.snd payload notif) s t := by
  unfold execSnd at h
  split at h
  · rename_i h2
    obtain ⟨h1, rfl⟩ := onCommand_eq_next.mp h
    by_cases h3 : broken s = true
    · rw [if_pos (by exact h3)]
      simp only [respond]
      rw [← h1]; exact .sndBroken h1 h2 ((broken_eq_true s).mp h3)
    · have h3' := (broken_eq_false s).mp (Bool.eq_false_of_not_eq_true h3)
      have he : emit (frame payload notif) { s with resp := none } =
          { s with resp := none, txOut := s.txOut ++ frame payload notif } := if_neg h3
      rw [if_neg (by exact h3), he]
      by_cases h4 : (notif || s.noack) = true
      · rw [if_pos (by exact h4)]
        simp only [respond]
        rw [← h1]; exact .sndAtOnce h1 h2 h3' (by simpa using h4)
      · rw [if_neg (by exact h4)]
        obtain ⟨rfl, h5⟩ : notif = false ∧ s.noack = false := by simpa using h4
        exact .sndWaits h1 h2 h3' h5
  · cases h

theorem execLinkfail_effect {s t : State} (h : execLinkfail s = .next t) : Effect .linkfail s t := by
  cases h
  by_cases hb : broken s = true <;> by_cases hh : s.hostState = .idle
  · rw [if_pos hh, if_pos hb]; exact .linkfailAgain hh ((broken_eq_true s).mp hb)
  · rw [if_neg hh, if_pos hb]; exact .linkfailAgainWaiting hh ((broken_eq_true s).mp hb)
  · have hf := (broken_eq_false s).mp (Bool.eq_false_of_not_eq_true hb)
    rw [if_pos hh, if_neg hb]
    have e : raiseError .transportFailure s =
        { s with fatal := .transportFailure, raised := s.raised ++ [.transportFailure] } := if_neg hb
    rw [e]; exact .linkfailFirst hh hf
  · have hf := (broken_eq_false s).mp (Bool.eq_false_of_not_eq_true hb)
    rw [if_neg hh, if_neg hb]
    have e : raiseError .transportFailure s =
        { s with fatal := .transportFailure, raised := s.raised ++ [.transportFailure] } := if_neg hb
    rw [e]; exact .linkfailWaiting hh hf

/-- Inversion of `exec`: a next state is one of the cases of `Effect`. -/
theorem exec_effect {i : Instr} {s t : State} (h : exec i s = .next t) : Effect i s t := by
  cases i with
  | rxbBreakTap => exact execRxb_effect h fun hs => .breakTap ((rowSelected_breakTap s).mp hs).1 ((rowSelected_breakTap s).mp hs).2
  | rxbStartPacket =>
    exact execRxb_effect h fun hs => .startPacket ((rowSelected_startPacket s).mp hs).1 ((rowSelected_startPacket s).mp hs).2
  | rxbStartNotification =>
    refine execRxb_effect h fun hs => ?_
    obtain ⟨h1, h2⟩ := (rowSelected_startNotification s).mp hs
    exact .startNotification h1 h2
  | rxbAckPlus =>
    refine execRxb_effect h fun hs => ?_
    obtain ⟨⟨h1, h2⟩, h3⟩ := (rowSelected_ackPlus s).mp hs
    exact .ackPlus h1 h2 h3
  | rxbAckMinus =>
    refine execRxb_effect h fun hs => ?_
    obtain ⟨⟨h1, h2⟩, h3⟩ := (rowSelected_ackMinus s).mp hs
    exact negativeEvent_effect (.inl ⟨rfl, h1, h2⟩) h3
  | rxbDiscard b =>
    refine execRxb_effect h fun hs => ?_
    obtain ⟨⟨⟨⟨h1, h2⟩, h3⟩, h4⟩, h5⟩ := (rowSelected_discard s b).mp hs
    exact .discard h1 h2 h3 h4 h5
  | rxbEndPayload =>
    refine execRxb_effect h fun hs => ?_
    obtain ⟨h1, h2⟩ := (rowSelected_endPayload s).mp hs
    exact .endPayload h1 h2
  | rxbPayloadByte b =>
    refine execRxb_effect h fun hs => ?_
    obtain ⟨⟨h1, h2⟩, h3⟩ := (rowSelected_payloadByte s b).mp hs
    rw [capHasRoom_eq]
    split
    · exact .payloadByte h1 h2 h3 ‹_›
    · exact .payloadByteFull h1 h2 h3 (Bool.eq_false_of_not_eq_true ‹_›)
  | rxbChecksumHi b =>
    refine execRxb_effect h fun hs => ?_
    obtain ⟨⟨h1, h2⟩, h3⟩ := (rowSelected_checksumHi s b).mp hs
    exact .checksumHi h1 h2 h3
  | rxbChecksumLo b => exact execRxbChecksumLo_effect h
  | rxbFatalDiscard b => exact execRxb_effect h fun hs => .fatalDiscard ((rowSelected_fatalDiscard s b).mp hs)
  | wpEscapePair e => cases h; exact .wireForm rfl
  | wpRunlengthPair c => cases h; exact .wireForm rfl
  | wpLiteral b => cases h; exact .wireForm rfl
  | ckDigit0to7 n => cases h; exact .checksumChar rfl
  | ckDigit8to9 n => cases h; exact .checksumChar rfl
  | ckLetterA => cases h; exact .checksumChar rfl
  | ckLetterBC n => cases h; exact .checksumChar rfl
  | ckLetterDE n => cases h; exact .checksumChar rfl
  | ckLetterF => cases h; exact .checksumChar rfl
  | ckInvalid b => cases h; exact .checksumChar rfl
  | available block => exact execAvailable_effect h
  | rcv => exact execRcv_effect h
  | snd payload notif => exact execSnd_effect h
  | pendingBreak =>
    replace h : execPendingBreak s = .next t := h
    obtain ⟨h1, rfl⟩ := onCommand_eq_next.mp h
    simp only [respond]
    rw [← h1]; exact .pendingBreak h1
  | clearBreak =>
    replace h : execClearBreak s = .next t := h
    obtain ⟨h1, rfl⟩ := onCommand_eq_next.mp h
    simp only [respond]
    rw [← h1]; exact .clearBreak h1
  | isReliable =>
    replace h : execIsReliable s = .next t := h
    obtain ⟨h1, rfl⟩ := onCommand_eq_next.mp h
    simp only [respond]
    rw [← h1]; exact .isReliable h1
  | setNoack =>
    replace h : execSetNoack s = .next t := h
    obtain ⟨h1, rfl⟩ := onCommand_eq_next.mp h
    simp only [respond]
    rw [← h1]; exact .setNoack h1
  | cmdReserved w => cases h
  | brkin =>
    cases (show execBrkin s = .next t from h)
    exact .brkin
  | ackTimeout =>
    replace h : execAckTimeout s = .next t := h
    unfold execAckTimeout at h
    split at h
    · cases h; exact negativeEvent_effect (.inr rfl) ‹_›
    · cases h
  | linkfail => exact execLinkfail_effect h
  | reset => cases h; exact .reset
  | txAckPlus => cases h; exact emitAck_effect (.inl rfl) rfl
  | txAckMinus => cases h; exact emitAck_effect (.inr rfl) rfl
  | txFrame payload notif => cases h; rw [emit_eq]; exact .transmit rfl
  | txEscapedByte b => cases h; rw [emit_eq]; exact .transmit rfl
  | respDone => cases h; exact .response rfl
  | respBool v => cases h; exact .response rfl
  | respPacket payload notif => cases h; exact .response rfl
  | respError code => cases h; exact .response rfl

end Sys2Proof.Machine
end

