-- ==== Sys2Proof/Laws/Wire.lean ====
section
/-! SUPPORT. The small lemmas of the wire functions: sums, escapes, tokens and digits, one step at a time. -/

namespace Sys2Proof.Machine

/-! ### Sums -/

@[simp] theorem sum8_nil : sum8 [] = 0 := rfl

theorem sum8_cons (b : Byte) (s : Bytes) : sum8 (b :: s) = b + sum8 s := by
  simp [sum8, BitVec.ofNat_add]

@[simp] theorem tokSum_nil : tokSum [] = 0 := rfl

theorem tokSum_cons (t : Token) (tokens : List Token) :
    tokSum (t :: tokens) = BitVec.ofNat 8 (tokenValue t) + tokSum tokens := by
  simp [tokSum, BitVec.ofNat_add]

theorem tokSum_append_one (tokens : List Token) (t : Token) :
    tokSum (tokens ++ [t]) = BitVec.ofNat 8 ((tokSum tokens).toNat + tokenValue t) := by
  apply BitVec.eq_of_toNat_eq
  simp [tokSum]

/-! ### Escapes -/

@[simp] theorem esc_nil : esc [] = [] := rfl

theorem esc_cons (b : Byte) (payload : Bytes) : esc (b :: payload) = escByte b ++ esc payload := by
  simp [esc]

theorem isReserved_iff (b : Byte) :
    isReserved b = true ↔ ((b = chDollar ∨ b = chHash) ∨ b = chEscape) ∨ b = chStar := by
  simp [isReserved]

/-- The escape is its own inverse (R83). -/
@[simp] theorem escape_involutive (b : Byte) : b ^^^ escapeMask ^^^ escapeMask = b := by
  rw [BitVec.xor_assoc]
  simp

/-! ### Tokens -/

@[simp] theorem tokenize_nil : tokenize [] = some [] := rfl

theorem tokenize_escape (e : Byte) (rest : Bytes) :
    tokenize (chEscape :: e :: rest) = (tokenize rest).map (escapeToken e :: ·) := by
  simp [tokenize]

theorem tokenize_star (c : Byte) (rest : Bytes) :
    tokenize (chStar :: c :: rest) = (tokenize rest).map (.rep c :: ·) := by
  rw [tokenize, if_neg (by decide), if_pos rfl]

theorem tokenize_plain {b : Byte} (h1 : b ≠ chEscape) (h2 : b ≠ chStar) (rest : Bytes) :
    tokenize (b :: rest) = (tokenize rest).map (.lit b :: ·) := by
  cases rest with
  | nil => simp only [tokenize, if_neg (not_or.mpr ⟨h1, h2⟩), Option.map_some]
  | cons c rest => rw [tokenize, if_neg h1, if_neg h2]

theorem decodeWirePayload_escape (e : Byte) (rest : Bytes) :
    decodeWirePayload (chEscape :: e :: rest) = (decodeWirePayload rest).map (.wpEscapePair e :: ·) := by
  simp [decodeWirePayload]

theorem decodeWirePayload_star (c : Byte) (rest : Bytes) :
    decodeWirePayload (chStar :: c :: rest) = (decodeWirePayload rest).map (.wpRunlengthPair c :: ·) := by
  rw [decodeWirePayload, if_neg (by decide), if_pos rfl]

theorem decodeWirePayload_plain {b : Byte} (h1 : b ≠ chEscape) (h2 : b ≠ chStar) (rest : Bytes) :
    decodeWirePayload (b :: rest) = (decodeWirePayload rest).map (.wpLiteral b :: ·) := by
  cases rest with
  | nil => simp only [decodeWirePayload, if_neg (not_or.mpr ⟨h1, h2⟩), Option.map_some]
  | cons c rest => rw [decodeWirePayload, if_neg h1, if_neg h2]

/-- Expanding a token list in two parts. -/
theorem expandFrom_append (out : Bytes) (a b : List Token) :
    expandFrom out (a ++ b) = (expandFrom out a).bind (expandFrom · b) := by
  induction a generalizing out with
  | nil => rfl
  | cons t a ih =>
    simp only [List.cons_append, expandFrom]
    cases expandToken out t with
    | none => rfl
    | some out' => exact ih out'

/-! ### Digits -/

/-- `HexVal` inverts `HexChar` (R69, R75). -/
@[simp] theorem hexVal_hexChar : ∀ d : BitVec 4, hexVal (hexChar d) = some d := by decide

/-- A character that is a digit is the character of its value: no two characters stand for one value. -/
theorem hexChar_of_hexVal : ∀ (ch : Byte) (d : BitVec 4), hexVal ch = some d → hexChar d = ch := by decide

end Sys2Proof.Machine
end

