-- ==== Sys2Proof/Tests/Slice0.lean ====
section
/-! SUPPORT. Tests, each on one step or one word. Expected results come from the spec: "vector n" is a vector of
`95_test_vectors.md`, a rule is named where no vector fits. The last section holds one witness for each clause of each
statement that has hypotheses. -/

namespace Sys2Proof.Tests

open Sys2Proof Sys2Proof.Machine

/-! ### Helpers -/

/-- One field of a next state. -/
def seen {α : Type} (f : State → α) : Host.Outcome State Fault Refusal → Option α
  | .next s => some (f s)
  | _ => none

/-- The reason of a refusal. -/
def why : Host.Outcome State Fault Refusal → Option Refusal
  | .refused r => some r
  | _ => none

/-- The rows an input decodes to. -/
def rowsOf (c : RxContext) (i : Input) : Option (List Instr) :=
  match decode c i with
  | .ok rows => some rows
  | .error _ => none

/-- The frame of `OK` (vector 2.1.2). -/
def frameOK : Bytes := [0x24, 0x4f, 0x4b, 0x23, 0x39, 0x61]

/-- The reset state inside a frame, with `acc` as given. -/
def framing (acc : Bytes) : State := { State.reset with rxState := .accumulatePayload, acc := acc }

/-- The reset state after `acc`, `#` and one checksum character. -/
def checking (acc : Bytes) (hi : Byte) : State :=
  { State.reset with rxState := .readChecksum, ckCnt := true, acc := acc, ckHi := hi }

/-- The reset state with the packet `g` in the slot. -/
def slotFull : State := { State.reset with pktValid := true, pktPayload := [0x67] }

/-- The state of vector 2.6.1 before its first `RCV`: `g` in the slot, the frame of `OK` held. -/
def holding : State := { slotFull with rxState := .validate, acc := [0x4f, 0x4b], ckHi := 0x39, ckLo := 0x61 }

/-- The same with a bad checksum (vector 2.6.2). -/
def holdingBad : State := { holding with ckLo := 0x62 }

/-- The state after `SND "OK"` (vector 2.7.1). -/
def waiting : State := { State.reset with hostState := .waitAck, pend := some frameOK, txOut := frameOK }

/-- The same with every retry used. -/
def exhausted : State := { waiting with retryCnt := 3 }

/-- The reset state after `AVAILABLE 1`. -/
def awaiting : State := { State.reset with hostState := .waitAvail }

/-- The reset state after `LINKFAIL` (vector 2.10.1). -/
def brokenLink : State := { State.reset with fatal := .transportFailure }

/-- A state of a connection with capacities of four bytes (vector 2.11). -/
def small (s : State) : State := { s with params := { s.params with maxWire := .upTo 4, maxPayload := .upTo 4 } }

/-- The reset state in no-ack mode. -/
def quiet : State := { State.reset with noack := true }

/-- The receive context of a scanning block. -/
def scan (waitAck : Bool) : RxContext := ⟨false, .scanForStart, false, waitAck⟩

/-! ### Ill-formed terms are refused, one for each check -/

theorem test_wf_discard_dollar : (Instr.rxbDiscard 0x24).wellFormed = false := by decide
theorem test_wf_discard_percent : (Instr.rxbDiscard 0x25).wellFormed = false := by decide
theorem test_wf_payload_hash : (Instr.rxbPayloadByte 0x23).wellFormed = false := by decide
theorem test_wf_literal_escape : (Instr.wpLiteral 0x7d).wellFormed = false := by decide
theorem test_wf_literal_star : (Instr.wpLiteral 0x2a).wellFormed = false := by decide
theorem test_wf_invalid_digit : (Instr.ckInvalid 0x30).wellFormed = false := by decide
theorem test_wf_reserved_assigned : (Instr.cmdReserved 0x13).wellFormed = false := by decide
theorem test_wf_escaped_plain : (Instr.txEscapedByte 0x41).wellFormed = false := by decide
theorem test_wf_uppercase_is_invalid : (Instr.ckInvalid 0x41).wellFormed = true := by decide

/-! ### Words written out from the encodings, one for every row -/

theorem test_decode_breakTap : rowsOf (scan false) (.rxByte 0b00000011#8) = some [.rxbBreakTap, .rxbDiscard 0x03] := by decide
theorem test_decode_startPacket : rowsOf (scan false) (.rxByte 0b00100100#8) = some [.rxbStartPacket] := by decide
theorem test_decode_startNotification : rowsOf (scan false) (.rxByte 0b00100101#8) = some [.rxbStartNotification] := by decide
theorem test_decode_ackPlus : rowsOf (scan true) (.rxByte 0b00101011#8) = some [.rxbAckPlus] := by decide
theorem test_decode_ackMinus : rowsOf (scan true) (.rxByte 0b00101101#8) = some [.rxbAckMinus] := by decide
theorem test_decode_discard : rowsOf (scan false) (.rxByte 0b00101011#8) = some [.rxbDiscard 0x2b] := by decide
theorem test_decode_endPayload :
    rowsOf ⟨false, .accumulatePayload, false, true⟩ (.rxByte 0b00100011#8) = some [.rxbEndPayload] := by decide
theorem test_decode_payloadByte :
    rowsOf ⟨false, .accumulatePayload, false, true⟩ (.rxByte 0b00101101#8) = some [.rxbPayloadByte 0x2d] := by decide
theorem test_decode_checksumHi :
    rowsOf ⟨false, .readChecksum, false, false⟩ (.rxByte 0b00100011#8) = some [.rxbChecksumHi 0x23] := by decide
theorem test_decode_checksumLo :
    rowsOf ⟨false, .readChecksum, true, false⟩ (.rxByte 0b00110111#8) = some [.rxbChecksumLo 0x37] := by decide
theorem test_decode_fatalDiscard :
    rowsOf ⟨true, .validate, false, false⟩ (.rxByte 0b00000011#8) = some [.rxbFatalDiscard 0x03] := by decide
theorem test_decode_held : rowsOf ⟨false, .validate, false, false⟩ (.rxByte 0b00000011#8) = none := by decide
theorem test_decode_escapePair :
    rowsOf (scan false) (.wireForm [0b01111101#8, 0b00101010#8]) = some [.wpEscapePair 0x2a] := by decide
theorem test_decode_runlengthPair :
    rowsOf (scan false) (.wireForm [0b00101010#8, 0b01111101#8]) = some [.wpRunlengthPair 0x7d] := by decide
theorem test_decode_literal : rowsOf (scan false) (.wireForm [0b00100100#8]) = some [.wpLiteral 0x24] := by decide
theorem test_decode_dangling : rowsOf (scan false) (.wireForm [0b00101010#8]) = none := by decide
theorem test_decode_digit0to7 : rowsOf (scan false) (.checksumChar 0b00110111#8) = some [.ckDigit0to7 0b111#3] := by decide
theorem test_decode_digit8to9 : rowsOf (scan false) (.checksumChar 0b00111001#8) = some [.ckDigit8to9 0b1#1] := by decide
theorem test_decode_letterA : rowsOf (scan false) (.checksumChar 0b01100001#8) = some [.ckLetterA] := by decide
theorem test_decode_letterBC : rowsOf (scan false) (.checksumChar 0b01100010#8) = some [.ckLetterBC 0b0#1] := by decide
theorem test_decode_letterDE : rowsOf (scan false) (.checksumChar 0b01100101#8) = some [.ckLetterDE 0b1#1] := by decide
theorem test_decode_letterF : rowsOf (scan false) (.checksumChar 0b01100110#8) = some [.ckLetterF] := by decide
theorem test_decode_ckInvalid : rowsOf (scan false) (.checksumChar 0b01000001#8) = some [.ckInvalid 0x41] := by decide
theorem test_decode_available : rowsOf (scan false) (.command 0b00010001#8 []) = some [.available true] := by decide
theorem test_decode_rcv : rowsOf (scan false) (.command 0b00000010#8 []) = some [.rcv] := by decide
theorem test_decode_snd : rowsOf (scan false) (.command 0b00010011#8 [0x67]) = some [.snd [0x67] true] := by decide
theorem test_decode_pendingBreak : rowsOf (scan false) (.command 0b00000100#8 []) = some [.pendingBreak] := by decide
theorem test_decode_clearBreak : rowsOf (scan false) (.command 0b00000101#8 []) = some [.clearBreak] := by decide
theorem test_decode_isReliable : rowsOf (scan false) (.command 0b00000110#8 []) = some [.isReliable] := by decide
theorem test_decode_setNoack : rowsOf (scan false) (.command 0b00000111#8 []) = some [.setNoack] := by decide
theorem test_decode_reserved : rowsOf (scan false) (.command 0b00010010#8 []) = some [.cmdReserved 0x12] := by decide
theorem test_decode_brkin : rowsOf (scan false) (.strobe .brkin) = some [.brkin] := by decide
theorem test_decode_ackTimeout : rowsOf (scan false) (.strobe .ackTimeout) = some [.ackTimeout] := by decide
theorem test_decode_linkfail : rowsOf (scan false) (.strobe .linkfail) = some [.linkfail] := by decide
theorem test_decode_reset : rowsOf (scan false) (.strobe .reset) = some [.reset] := by decide
theorem test_decode_txAckPlus : rowsOf (scan false) (.transmit [0b00101011#8]) = some [.txAckPlus] := by decide
theorem test_decode_txAckMinus : rowsOf (scan false) (.transmit [0b00101101#8]) = some [.txAckMinus] := by decide
/-- Vector 2.1.8: the frame of `#`. -/
theorem test_decode_txFrame :
    rowsOf (scan false) (.transmit [0x24, 0x7d, 0x03, 0x23, 0x32, 0x33]) = some [.txFrame [0x23] false] := by decide
theorem test_decode_txEscapedByte :
    rowsOf (scan false) (.transmit [0b01111101#8, 0b00001010#8]) = some [.txEscapedByte 0x2a] := by decide
theorem test_decode_respDone : rowsOf (scan false) (.response 0b00000000#8 []) = some [.respDone] := by decide
theorem test_decode_respBool : rowsOf (scan false) (.response 0b00000101#8 []) = some [.respBool true] := by decide
theorem test_decode_respPacket :
    rowsOf (scan false) (.response 0b00000110#8 [0x6e]) = some [.respPacket [0x6e] true] := by decide
theorem test_decode_respError :
    rowsOf (scan false) (.response 0b01000011#8 []) = some [.respError .retryExhausted] := by decide
theorem test_decode_respError_code5 : rowsOf (scan false) (.response 0b01010011#8 []) = none := by decide

/-! ### The wire format -/

/-- Vector 2.1.13. -/
theorem test_frame : frame [0x00, 0x7d, 0x23, 0x24, 0x2a, 0xff, 0x03] false =
    [0x24, 0x00, 0x7d, 0x5d, 0x7d, 0x03, 0x7d, 0x04, 0x7d, 0x0a, 0xff, 0x03, 0x23, 0x66, 0x30] := by decide
/-- Vector 2.4.5. -/
theorem test_expand : (tokenize [0x7d, 0x0a, 0x2a, 0x22]).bind expand = some (List.replicate 6 0x2a) := by decide
/-- Vector 2.4.4: the second `*` is the count byte 42. -/
theorem test_expand_star_count : (tokenize [0x61, 0x2a, 0x2a]).bind expand = some (List.replicate 14 0x61) := by decide

/-! ### One step on a small state -/

/-- Vector 2.8.1. -/
theorem test_step_break : seen statusWord (step { State.reset with inputs := [.rxByte 0x03] }) = some 0x4008 := by decide
/-- R91: the marker is not stored. -/
theorem test_startPacket : seen (fun t => (t.rxState, t.rxNotif, t.acc))
    (exec .rxbStartPacket { State.reset with rxNotif := true }) = some (.accumulatePayload, false, []) := by decide
/-- R92. -/
theorem test_startNotification : seen (fun t => (t.rxState, t.rxNotif))
    (exec .rxbStartNotification State.reset) = some (.accumulatePayload, true) := by decide
/-- Vector 2.7.1, its last line. -/
theorem test_ackPlus : seen (fun t => (t.pend, t.resp, t.hostState, t.txOut)) (exec .rxbAckPlus waiting) =
    some (none, some (.bool true), .idle, frameOK) := by decide
/-- Vector 2.7.1. -/
theorem test_ackMinus : seen (fun t => (t.txOut, t.retryCnt, t.hostState)) (exec .rxbAckMinus waiting) =
    some (frameOK ++ frameOK, 1, .waitAck) := by decide
/-- Vector 2.7.3, its fourth `-`. -/
theorem test_ackMinus_exhausts : seen (fun t => (t.txOut, t.fatal, t.resp, t.raised)) (exec .rxbAckMinus exhausted) =
    some (frameOK, .retryExhausted, some (.bool false), [.retryExhausted]) := by decide
/-- Vector 2.7.7. -/
theorem test_discard_stray_ack : exec (.rxbDiscard 0x2b) State.reset = .next State.reset := by rfl
/-- R94. -/
theorem test_endPayload : seen (fun t => (t.rxState, t.ckCnt, t.acc)) (exec .rxbEndPayload (framing [0x67])) =
    some (.readChecksum, false, [0x67]) := by decide
/-- R95. -/
theorem test_payloadByte : seen (fun t => (t.acc, t.accOvf)) (exec (.rxbPayloadByte 0x2c) (framing [0x6d, 0x30])) =
    some ([0x6d, 0x30, 0x2c], false) := by decide
/-- Vector 2.11.2, its fifth payload byte. -/
theorem test_payloadByte_full : seen (fun t => (t.acc, t.accOvf))
    (exec (.rxbPayloadByte 0x65) (small (framing [0x61, 0x62, 0x63, 0x64]))) =
      some ([0x61, 0x62, 0x63, 0x64], true) := by decide
/-- R96. -/
theorem test_checksumHi : seen (fun t => (t.ckHi, t.ckCnt))
    (exec (.rxbChecksumHi 0x36) { framing [0x67] with rxState := .readChecksum }) = some (0x36, true) := by decide
/-- Vector 2.2.1. -/
theorem test_checksumLo_good : seen (fun t => (t.pktValid, t.pktPayload, t.txOut, t.rxState))
    (exec (.rxbChecksumLo 0x37) (checking [0x67] 0x36)) = some (true, [0x67], [0x2b], .scanForStart) := by decide
/-- Vector 2.3.2: an uppercase digit. -/
theorem test_checksumLo_uppercase : seen (fun t => (t.pktValid, t.txOut, t.raised, t.acc))
    (exec (.rxbChecksumLo 0x41) (checking [0x4f, 0x4b] 0x39)) =
      some (false, [0x2d], [.checksumMismatch], []) := by decide
/-- Vector 2.10.1. -/
theorem test_fatalDiscard : exec (.rxbFatalDiscard 0x03) brokenLink = .next brokenLink := by rfl
/-- R120: `7d 41` decodes to `a`. -/
theorem test_escapePair : seen (fun t => (t.work.tokens, t.work.out)) (exec (.wpEscapePair 0x41) State.reset) =
    some ([.lit 0x61], some [0x61]) := by decide
/-- R119: a pair with nothing before it. -/
theorem test_runlengthPair_first : seen (fun t => (t.work.sum, t.work.out)) (exec (.wpRunlengthPair 0x20) State.reset) =
    some (0x4a, none) := by decide
/-- R119: count byte 28 is invalid, 29 adds nothing. -/
theorem test_runlengthPair_bias :
    (expandToken [0x61] (.rep 0x1c), expandToken [0x61] (.rep 0x1d)) = (none, some [0x61]) := by decide
/-- R72. -/
theorem test_literal : seen (fun t => t.work.out) (exec (.wpLiteral 0x03) State.reset) = some (some [0x03]) := by decide
/-- R75. -/
theorem test_digit0to7 : seen (fun t => t.work.carried) (exec (.ckDigit0to7 6) State.reset) = some (some 0x06) := by decide
theorem test_digit8to9 : seen (fun t => t.work.carried) (exec (.ckDigit8to9 1) State.reset) = some (some 0x09) := by decide
theorem test_letterA : seen (fun t => t.work.carried)
    (exec .ckLetterA { State.reset with work := { Work.fresh with carried := some 0x09 } }) = some (some 0x9a) := by decide
theorem test_letterBC : seen (fun t => t.work.carried) (exec (.ckLetterBC 1) State.reset) = some (some 0x0c) := by decide
theorem test_letterDE : seen (fun t => t.work.carried) (exec (.ckLetterDE 0) State.reset) = some (some 0x0d) := by decide
theorem test_letterF : seen (fun t => t.work.carried) (exec .ckLetterF State.reset) = some (some 0x0f) := by decide
theorem test_ckInvalid : seen (fun t => t.work.carried) (exec (.ckInvalid 0x41) State.reset) = some none := by decide
/-- Vector 2.6.3. -/
theorem test_available_waits : seen (fun t => (t.hostState, t.resp)) (exec (.available true) State.reset) =
    some (.waitAvail, none) := by decide
/-- Vector 2.10.1: it does not wait on a broken connection. -/
theorem test_available_broken : seen (fun t => (t.hostState, t.resp)) (exec (.available true) brokenLink) =
    some (.idle, some (.bool false)) := by decide
/-- Vector 2.6.1, its first `RCV`. -/
theorem test_rcv_releases : seen (fun t => (t.resp, t.pktPayload, t.txOut, t.rxState)) (exec .rcv holding) =
    some (some (.packet [0x67] false), [0x4f, 0x4b], [0x2b], .scanForStart) := by decide
/-- Vector 2.6.5. -/
theorem test_rcv_empty : seen (fun t => (t.resp, t.raised, t.fatal)) (exec .rcv State.reset) =
    some (some (.error .protocolStateError), [.protocolStateError], .none) := by decide
/-- Vector 2.1.16. -/
theorem test_snd : seen (fun t => (t.txOut, t.pend, t.hostState, t.resp)) (exec (.snd [0x3d, 0x2a] false) State.reset) =
    some ([0x24, 0x3d, 0x7d, 0x0a, 0x23, 0x36, 0x37], some [0x24, 0x3d, 0x7d, 0x0a, 0x23, 0x36, 0x37], .waitAck, none) := by
  decide
/-- Vector 2.1.15. -/
theorem test_snd_notification : seen (fun t => (t.txOut, t.pend, t.hostState, t.resp)) (exec (.snd [0x6e] true) State.reset) =
    some ([0x25, 0x6e, 0x23, 0x36, 0x65], none, .idle, some (.bool true)) := by decide
/-- Vector 2.8.1: reading does not clear. -/
theorem test_pendingBreak : seen (fun t => (t.resp, t.brk)) (exec .pendingBreak { State.reset with brk := true }) =
    some (some (.bool true), true) := by decide
/-- Vector 2.8.1, and the pulse of R173. -/
theorem test_clearBreak : seen (fun t => (t.resp, t.brk, t.brkClr)) (exec .clearBreak { State.reset with brk := true }) =
    some (some .done, false, true) := by decide
/-- R132. -/
theorem test_isReliable : seen (fun t => t.resp)
    (exec .isReliable (State.start { reliable := true, maxRetries := 0, maxWire := .inf, maxPayload := .inf })) =
      some (some (.bool true)) := by decide
/-- Vector 2.7.2. -/
theorem test_setNoack : seen (fun t => (statusWord t, t.resp)) (exec .setNoack State.reset) =
    some (0x4004, some .done) := by decide
/-- R82. -/
theorem test_reserved : why (exec (.cmdReserved 0x12) State.reset) = some .reservedCommand := by decide
/-- Vector 2.10.1. -/
theorem test_brkin : seen (fun t => t.brk) (exec .brkin brokenLink) = some true := by decide
/-- Vector 2.7.9. -/
theorem test_ackTimeout_idle : why (exec .ackTimeout State.reset) = some .ackTimerNotRunning := by decide
/-- P4, step 5: also while a frame is held. -/
theorem test_ackTimeout_held : seen (fun t => (t.txOut, t.retryCnt, t.rxState))
    (exec .ackTimeout { waiting with rxState := .validate, pktValid := true }) =
      some (frameOK ++ frameOK, 1, .validate) := by decide
/-- Vector 2.10.2. -/
theorem test_linkfail : seen (fun t => (t.fatal, t.pend, t.resp, t.hostState)) (exec .linkfail waiting) =
    some (.transportFailure, none, some (.bool false), .idle) := by decide
/-- Vector 2.10.5: the first error is kept. -/
theorem test_linkfail_second : seen (fun t => t.fatal) (exec .linkfail { State.reset with fatal := .retryExhausted }) =
    some .retryExhausted := by decide
/-- Vector 2.12.2. -/
theorem test_reset : seen (fun t => (t.hostState, t.resp, t.pend, t.txOut)) (exec .reset waiting) =
    some (.idle, none, none, frameOK) := by decide
/-- R114, R115: nothing for a notification. -/
theorem test_txAckPlus : (seen (fun t => t.txOut) (exec .txAckPlus State.reset),
    seen (fun t => t.txOut) (exec .txAckPlus { State.reset with rxNotif := true })) = (some [0x2b], some []) := by decide
theorem test_txAckMinus : (seen (fun t => t.txOut) (exec .txAckMinus State.reset),
    seen (fun t => t.txOut) (exec .txAckMinus quiet)) = (some [0x2d], some []) := by decide
/-- Vector 2.1.1. -/
theorem test_txFrame : seen (fun t => t.txOut) (exec (.txFrame [0x67] false) State.reset) =
    some [0x24, 0x67, 0x23, 0x36, 0x37] := by decide
/-- R65. -/
theorem test_txEscapedByte : seen (fun t => t.txOut) (exec (.txEscapedByte 0x24) State.reset) = some [0x7d, 0x04] := by
  decide
/-- R22. -/
theorem test_respDone : seen (fun t => (t.resp, t.hostState)) (exec .respDone awaiting) = some (some .done, .idle) := by decide
theorem test_respBool : seen (fun t => t.resp) (exec (.respBool false) State.reset) = some (some (.bool false)) := by decide
theorem test_respPacket : seen (fun t => t.resp) (exec (.respPacket [0x67] true) State.reset) =
    some (some (.packet [0x67] true)) := by decide
theorem test_respError : seen (fun t => t.resp) (exec (.respError .protocolStateError) State.reset) =
    some (some (.error .protocolStateError)) := by decide
/-- Vector 2.6.1: the status word of a held frame. -/
theorem test_status_held : statusWord holding = 0x0601 := by decide
/-- Vector 2.6.6. -/
theorem test_busy : why (exec .pendingBreak awaiting) = some .hostBusy := by decide
/-- Vector 2.11.4. -/
theorem test_oversize : why (exec (.snd [0x61, 0x62, 0x63, 0x64, 0x65] false) (small State.reset)) = some .oversizePayload := by
  decide
/-- P4, step 4. -/
theorem test_step_held : why (step { holding with inputs := [.rxByte 0x2b] }) = some .rxNotReady := by decide

/-! ### Bare table words (entry 5) -/

theorem test_word_startPacket : decodeTableWord 8 0x24 = some .rxbStartPacket := by decide
theorem test_word_escapePair : decodeTableWord 16 0x5d7d = some (.wpEscapePair 0x5d) := by decide
theorem test_word_letterA : decodeTableWord 8 0x61 = some .ckLetterA := by decide
theorem test_word_strobe : decodeTableWord 0 0 = decodeTableWord 8 0 := by decide
theorem test_word_runs : seen (fun t => (t.rxState, t.ckCnt, t.inputs)) (step (State.reset.withFetchWord 8 0x23)) =
    some (.readChecksum, false, []) := by decide
theorem test_word_ackPlus_runs : seen (fun t => t.resp) (step (State.reset.withFetchWord 8 0x2b)) =
    some (some (.bool true)) := by decide

/-! ### Witnesses: each statement's hypotheses are met, for each clause -/

theorem witness_StepRunsDecodedRows_one : ∃ (s : State) (input : Input) (rest : List Input) (i : Instr),
    s.inputs = input :: rest ∧ decode (rxContext s) input = .ok [i] :=
  ⟨{ State.reset with inputs := [.rxByte 0x24] }, .rxByte 0x24, [], .rxbStartPacket, rfl, rfl⟩
theorem witness_StepRunsDecodedRows_two : ∃ (s t : State) (input : Input) (rest : List Input) (i j : Instr),
    s.inputs = input :: rest ∧ decode (rxContext s) input = .ok [i, j] ∧
      exec i { s with inputs := rest, brkClr := false } = .next t :=
  ⟨{ State.reset with inputs := [.rxByte 0x03] }, { State.reset with brk := true }, .rxByte 0x03, [], .rxbBreakTap,
    .rxbDiscard 0x03, rfl, rfl, rfl⟩
theorem witness_StepRunsDecodedRows_idle : State.reset.inputs = [] := rfl
theorem witness_ReceivedByteClasses : ∃ c d e f : RxContext,
    (c.broken = false ∧ c.rxState = .scanForStart ∧ c.waitAck = true) ∧
    (d.broken = false ∧ d.rxState = .accumulatePayload) ∧ (e.broken = false ∧ e.rxState = .readChecksum) ∧
    (f.broken = false ∧ f.rxState = .validate) ∧
    ((scan false).broken = false ∧ (0x2b : Byte) ≠ 0x24 ∧ (0x2b : Byte) ≠ 0x25 ∧
      ((0x2b : Byte) = 0x2b ∨ (0x2b : Byte) = 0x2d → (scan false).waitAck = false)) :=
  ⟨scan true, ⟨false, .accumulatePayload, false, false⟩, ⟨false, .readChecksum, true, false⟩,
    ⟨false, .validate, false, false⟩, by decide⟩
theorem witness_ReceivedBytePassesTheTap : ∃ s t u : State,
    (s.inputs = [.rxByte 0x03] ∧ s.fatal ≠ .none) ∧
    (t.inputs = [.rxByte 0x03] ∧ t.fatal = .none ∧ t.rxState = .validate) ∧
    (u.inputs = [.rxByte 0x03] ∧ u.fatal = .none ∧ u.rxState ≠ .validate) :=
  ⟨{ brokenLink with inputs := [.rxByte 0x03] }, { holding with inputs := [.rxByte 0x03] },
    { State.reset with inputs := [.rxByte 0x03] }, by decide⟩
theorem witness_EncodedRowsDecodeBack :
    (Instr.rxbBreakTap.wellFormed = true ∧ rowSelected (scan false) .rxbBreakTap = true) ∧
    ((Instr.rxbDiscard 0x03).wellFormed = true ∧ rowSelected (scan false) (.rxbDiscard 0x03) = true ∧
      Instr.rxbDiscard 0x03 ≠ .rxbBreakTap) := by decide
theorem witness_DecodedRowsAreSelected : decode (scan false) (.rxByte 0x03) = .ok [.rxbBreakTap, .rxbDiscard 0x03] := rfl
theorem witness_EventsAreRefusedExactlyAsListed : ∃ s : State,
    s.inputs = [.strobe .ackTimeout] ∧ isEventInput (.strobe .ackTimeout) = true :=
  ⟨{ State.reset with inputs := [.strobe .ackTimeout] }, by decide⟩
theorem witness_DollarOpensAPacket : waiting.fatal = .none ∧ waiting.rxState = .scanForStart := by decide
theorem witness_PercentOpensANotification : State.reset.fatal = .none ∧ State.reset.rxState = .scanForStart := by decide
theorem witness_BreakSourcesSetOnlyBrk : State.reset.fatal = .none ∧ State.reset.rxState ≠ .validate := by decide
theorem witness_DiscardedBytesChangeNothing : State.reset.fatal = .none ∧ State.reset.rxState = .scanForStart ∧
    (0x2b : Byte) ≠ 0x24 ∧ (0x2b : Byte) ≠ 0x25 ∧
    ((0x2b : Byte) = 0x2b ∨ (0x2b : Byte) = 0x2d → State.reset.hostState ≠ .waitAck) := by decide
theorem witness_FrameBytesAreStored_room : ∃ s : State, s.fatal = .none ∧ s.rxState = .accumulatePayload ∧
    (0x24 : Byte) ≠ 0x23 ∧ capHasRoom s.params.maxWire s.acc.length = true :=
  ⟨small (framing [0x61, 0x62, 0x63]), by decide⟩
theorem witness_FrameBytesAreStored_full : ∃ s : State, s.fatal = .none ∧ s.rxState = .accumulatePayload ∧
    (0x24 : Byte) ≠ 0x23 ∧ capHasRoom s.params.maxWire s.acc.length = false :=
  ⟨small (framing [0x61, 0x62, 0x63, 0x64]), by decide⟩
theorem witness_FrameBytesAreStored_checksum : ∃ s : State, s.fatal = .none ∧ s.rxState = .readChecksum ∧ s.ckCnt = false :=
  ⟨{ framing [] with rxState := .readChecksum }, by decide⟩
theorem witness_FullSlotHoldsTheFrame : ∃ s : State, s.fatal = .none ∧ s.rxState = .readChecksum ∧ s.ckCnt = true ∧
    s.pktValid = true :=
  ⟨{ checking [0x67] 0x36 with pktValid := true }, by decide⟩
theorem witness_ValidFrameIsDelivered : ∃ s : State, s.fatal = .none ∧ s.rxState = .readChecksum ∧ s.ckCnt = true ∧
    s.pktValid = false ∧ s.hostState = .waitAvail ∧ validPayload { s with ckLo := 0x37 } = some [0x67] :=
  ⟨{ checking [0x67] 0x36 with hostState := .waitAvail }, by decide⟩
theorem witness_InvalidFrameIsRejected : ∃ s : State, s.fatal = .none ∧ s.rxState = .readChecksum ∧ s.ckCnt = true ∧
    s.pktValid = false ∧ validPayload { s with ckLo := 0x38 } = none :=
  ⟨checking [0x67] 0x36, by decide⟩
theorem witness_ValidityIsTheSixConditions :
    validPayload { small (checking [0x61, 0x62, 0x63, 0x64] 0x38) with ckLo := 0x61 } = some [0x61, 0x62, 0x63, 0x64] := by
  decide
theorem witness_WireRowsRefineTheDecoder :
    decodeWirePayload [0x61, 0x2a, 0x1d] = some [.wpLiteral 0x61, .wpRunlengthPair 0x1d] ∧
      decodeWirePayload [0x61, 0x2a] = none := by decide
theorem witness_ReceiveStateTransitions : ∃ s t : State, exec .rcv s = .next t ∧ s.rxState = .validate ∧ s.pktValid = true :=
  ⟨holding, _, rfl, by decide⟩
theorem witness_FrameRoundTrip : ∃ s : State, s.fatal = .none ∧ s.rxState = .scanForStart ∧ s.pktValid = false ∧
    capAdmits s.params.maxPayload ([0x23, 0x2a] : Bytes).length = true ∧
    capAdmits s.params.maxWire (2 * ([0x23, 0x2a] : Bytes).length) = true ∧
    s.inputs = (frame [0x23, 0x2a] true).map .rxByte ++ [.strobe .ackTimeout] :=
  ⟨{ small waiting with inputs := (frame [0x23, 0x2a] true).map .rxByte ++ [.strobe .ackTimeout] }, by decide⟩
theorem witness_CorruptedChecksumBitIsCaught : ∃ s : State, 7 < 8 ∧ s.fatal = .none ∧ s.rxState = .readChecksum ∧
    s.ckCnt = true ∧ s.pktValid = false ∧ s.rxNotif = false ∧ s.noack = false ∧
    validPayload { s with ckLo := 0x37 } ≠ none :=
  ⟨checking [0x67] 0x36, by decide⟩
/-- Vector 2.9.1. -/
theorem witness_CorruptedPayloadBitIsCaught : ∃ (s : State) (wire : Bytes), 0 < 8 ∧ 3 < wire.length ∧ s.fatal = .none ∧
    s.rxState = .scanForStart ∧ s.pktValid = false ∧ s.noack = false ∧
    capAdmits s.params.maxWire wire.length = true ∧
    validPayload { s with acc := wire, accOvf := false, ckHi := 0x66, ckLo := 0x64 } ≠ none ∧
    0x23 ∉ wire ∧ 0x7d ∉ wire ∧
    0x23 ∉ wire.modify 3 (· ^^^ BitVec.twoPow 8 0) ∧ 0x7d ∉ wire.modify 3 (· ^^^ BitVec.twoPow 8 0) ∧
    s.inputs = ([0x24] ++ wire.modify 3 (· ^^^ BitVec.twoPow 8 0) ++ [0x23, 0x66, 0x64]).map .rxByte ++ [] :=
  ⟨{ small State.reset with inputs := [0x24, 0x6d, 0x30, 0x2c, 0x35, 0x23, 0x66, 0x64].map .rxByte },
    [0x6d, 0x30, 0x2c, 0x34], by decide⟩
theorem witness_AvailableAnswersOrWaits : ∃ s t u : State, (s.hostState = .idle ∧ s.pktValid = true) ∧
    (t.hostState = .idle ∧ t.pktValid = false ∧ t.fatal ≠ .none) ∧
    (u.hostState = .idle ∧ u.pktValid = false ∧ u.fatal = .none) :=
  ⟨slotFull, brokenLink, State.reset, by decide⟩
theorem witness_RcvWithoutPacketIsAnError : State.reset.hostState = .idle ∧ State.reset.pktValid = false := by decide
theorem witness_RcvTakesThePacket : slotFull.hostState = .idle ∧ slotFull.pktValid = true ∧ slotFull.rxState ≠ .validate := by
  decide
theorem witness_RcvReleasesTheHeldFrame_valid : holding.hostState = .idle ∧ holding.pktValid = true ∧
    holding.rxState = .validate ∧ validPayload holding = some [0x4f, 0x4b] := by decide
theorem witness_RcvReleasesTheHeldFrame_invalid : holdingBad.hostState = .idle ∧ holdingBad.pktValid = true ∧
    holdingBad.rxState = .validate ∧ validPayload holdingBad = none := by decide
theorem witness_SndWithoutAcknowledgment : ∃ s t : State,
    (s.hostState = .idle ∧ s.fatal = .none ∧ s.noack = false ∧ (true = true ∨ s.noack = true) ∧
      capAdmits s.params.maxPayload ([0x61, 0x62, 0x63, 0x64] : Bytes).length = true) ∧
    (t.hostState = .idle ∧ t.fatal = .none ∧ (false = true ∨ t.noack = true) ∧
      capAdmits t.params.maxPayload ([] : Bytes).length = true) :=
  ⟨small State.reset, quiet, by decide⟩
theorem witness_SndWaitsForAcknowledgment : ∃ s : State, s.hostState = .idle ∧ s.fatal = .none ∧ s.noack = false ∧
    capAdmits s.params.maxPayload ([0x61, 0x62, 0x63, 0x64] : Bytes).length = true :=
  ⟨small State.reset, by decide⟩
theorem witness_SndOnBrokenConnection : brokenLink.hostState = .idle ∧ brokenLink.fatal ≠ .none ∧
    capAdmits brokenLink.params.maxPayload ([0x67] : Bytes).length = true := by decide
theorem witness_OversizeSndIsRefused : ∃ s : State, s.params.maxPayload = .upTo 4 ∧
    4 < ([0x61, 0x62, 0x63, 0x64, 0x65] : Bytes).length ∧ State.reset.params.maxPayload = .inf :=
  ⟨small State.reset, by decide⟩
theorem witness_BreakIsPolledAndCleared : brokenLink.hostState = .idle ∧ awaiting.hostState ≠ .idle := by decide
theorem witness_SessionCommandsAnswerAtOnce : State.reset.hostState = .idle := by decide
theorem witness_OnlyRcvAndResetEmptyTheSlot : ∃ t : State, exec .linkfail holding = .next t ∧ holding.pktValid = true :=
  ⟨_, rfl, by decide⟩
theorem witness_AckPlusCompletesSnd : waiting.fatal = .none ∧ waiting.rxState = .scanForStart ∧
    waiting.hostState = .waitAck := by decide
theorem witness_NegativeEventsRetransmitOrExhaust : ∃ s : State,
    (s.fatal = .none ∧ s.hostState = .waitAck ∧ s.pend = some frameOK ∧ s.rxState = .scanForStart ∧
      s.retryCnt + 1 = s.params.maxRetries) ∧
    (exhausted.fatal = .none ∧ exhausted.hostState = .waitAck ∧ exhausted.pend = some frameOK ∧
      exhausted.rxState = .scanForStart ∧ exhausted.retryCnt = exhausted.params.maxRetries) :=
  ⟨{ waiting with retryCnt := 2 }, by decide⟩
theorem witness_RetransmissionsAreBounded : ∃ (s t : State) (e f : List Input),
    (s.fatal = .none ∧ s.rxState = .scanForStart ∧ s.hostState = .waitAck ∧ s.pend = some frameOK ∧
      s.retryCnt ≤ s.params.maxRetries ∧ s.inputs = e ∧
      (∀ x ∈ e, x = .rxByte 0x2d ∨ x = .strobe .ackTimeout) ∧ s.retryCnt + e.length = s.params.maxRetries) ∧
    (t.fatal = .none ∧ t.rxState = .scanForStart ∧ t.hostState = .waitAck ∧ t.pend = some frameOK ∧
      t.retryCnt ≤ t.params.maxRetries ∧ t.inputs = f ∧
      (∀ x ∈ f, x = .rxByte 0x2d ∨ x = .strobe .ackTimeout) ∧ t.retryCnt + f.length = t.params.maxRetries + 1) :=
  ⟨{ waiting with retryCnt := 1, inputs := [.rxByte 0x2d, .strobe .ackTimeout] },
    { waiting with retryCnt := 3, inputs := [.strobe .ackTimeout] },
    [.rxByte 0x2d, .strobe .ackTimeout], [.strobe .ackTimeout], by decide⟩
theorem witness_NoAckModeIsSilent : ∃ s t u v : State,
    (isEventRow (.rxbChecksumLo 0x37) = true ∧ s.noack = true ∧ s.hostState ≠ .waitAck ∧
      exec (.rxbChecksumLo 0x37) s = .next t) ∧
    (isEventRow (.snd [0x67] false) = true ∧ u.noack = true ∧ u.hostState ≠ .waitAck ∧
      exec (.snd [0x67] false) u = .next v) :=
  ⟨{ checking [0x67] 0x36 with noack := true }, _, quiet, _,
    ⟨rfl, rfl, by decide, rfl⟩, ⟨rfl, rfl, by decide, rfl⟩⟩
theorem witness_ReliableLevelIsNotRead : Instr.setNoack ≠ .isReliable := by decide
theorem witness_BrkIsReadByItsPollOnly : ∃ t u : State, Instr.rcv ≠ .pendingBreak ∧
    (exec .brkin awaiting = .next t ∧ Instr.brkin ≠ .reset ∧ t.brk ≠ awaiting.brk ∧ awaiting.hostState ≠ .idle ∧
      Instr.brkin ≠ .clearBreak) ∧
    (exec .clearBreak { State.reset with brk := true } = .next u ∧ u.brk ≠ true) :=
  ⟨_, _, by decide, ⟨rfl, by decide, by decide, by decide, by decide⟩, ⟨rfl, by decide⟩⟩
theorem witness_LinkfailEndsTheConnection : (State.reset.fatal = .none ∧ State.reset.hostState = .idle) ∧
    (waiting.fatal = .none ∧ waiting.hostState ≠ .idle) ∧ (brokenLink.fatal ≠ .none ∧ brokenLink.hostState = .idle) ∧
    ({ waiting with fatal := .retryExhausted : State }.fatal ≠ .none ∧
      { waiting with fatal := .retryExhausted : State }.hostState ≠ .idle) := by decide
theorem witness_BrokenConnectionIsInert : ∃ t : State, brokenLink.fatal ≠ .none ∧ brokenLink.hostState = .idle ∧
    exec .rcv brokenLink = .next t ∧ Instr.rcv ≠ .reset :=
  ⟨_, by decide, by decide, rfl, by decide⟩
theorem witness_StalledBlockMovesOnlyByStrobe : ∃ s t : State, s.fatal = .none ∧ s.hostState = .waitAck ∧
    s.rxState = .validate ∧ isEventRow .brkin = true ∧ exec .brkin s = .next t :=
  ⟨{ waiting with rxState := .validate, pktValid := true }, _, rfl, rfl, rfl, rfl, rfl⟩
theorem witness_TransmitRecordOnlyGrows : ∃ t : State, exec .ackTimeout waiting = .next t ∧ isEventRow .ackTimeout = true ∧
    t.txOut ≠ waiting.txOut :=
  ⟨_, rfl, rfl, by decide⟩
theorem witness_StepKeepsTheInvariant : ∃ s t : State, Consistent s ∧ s.hostState = .waitAck ∧ s.inputs ≠ [] ∧
    step s = .next t :=
  ⟨{ waiting with inputs := [.strobe .ackTimeout] }, _, by decide, by decide, by decide, rfl⟩
theorem witness_StepKeepsTheInvariant_held : Consistent holding := by decide
theorem witness_ModeAndFatalAreOneWay : ∃ t u v w : State,
    (exec .setNoack State.reset = .next t ∧ State.reset.noack = false ∧ t.noack = true) ∧
    (exec .linkfail State.reset = .next u ∧ State.reset.fatal = .none ∧ u.fatal = .transportFailure) ∧
    (exec .rxbAckMinus exhausted = .next v ∧ exhausted.fatal = .none ∧ v.fatal = .retryExhausted) ∧
    (exec .linkfail { quiet with fatal := .retryExhausted } = .next w ∧ w.noack = true ∧ w.fatal = .retryExhausted) :=
  ⟨_, _, _, _, ⟨rfl, rfl, rfl⟩, ⟨rfl, rfl, rfl⟩, ⟨rfl, rfl, rfl⟩, ⟨rfl, rfl, rfl⟩⟩
theorem witness_FlagsAreWrittenAsListed_slot : ∃ t u v : State,
    (exec (.rxbChecksumLo 0x37) { checking [0x67] 0x36 with rxNotif := true } = .next t ∧ t.pktValid = true ∧
      t.pktNotif ≠ false ∧ t.rxNotif = false) ∧
    (exec .rcv slotFull = .next u ∧ u.pktValid = false) ∧
    (exec .rcv { holding with pktNotif := true } = .next v ∧ v.pktNotif ≠ true) :=
  ⟨_, _, _, ⟨rfl, rfl, by decide, rfl⟩, ⟨rfl, rfl⟩, ⟨rfl, by decide⟩⟩
theorem witness_FlagsAreWrittenAsListed_frame : ∃ t u v : State,
    (exec .rxbStartNotification State.reset = .next t ∧ t.rxNotif = true) ∧
    (exec (.rxbPayloadByte 0x65) (small (framing [0x61, 0x62, 0x63, 0x64])) = .next u ∧ u.accOvf = true) ∧
    (exec .rxbStartPacket { State.reset with accOvf := true, rxNotif := true } = .next v ∧ v.accOvf = false ∧
      v.rxNotif = false) :=
  ⟨_, _, _, ⟨rfl, rfl⟩, ⟨rfl, rfl⟩, ⟨rfl, rfl, rfl⟩⟩
theorem witness_FlagsAreWrittenAsListed_mode : ∃ t u v w : State,
    (exec .setNoack State.reset = .next t ∧ t.noack = true) ∧ (exec .reset quiet = .next u ∧ u.noack = false) ∧
    (exec .brkin State.reset = .next v ∧ v.brk = true) ∧
    (exec .clearBreak { State.reset with brk := true } = .next w ∧ w.brk = false) :=
  ⟨_, _, _, _, ⟨rfl, rfl⟩, ⟨rfl, rfl⟩, ⟨rfl, rfl⟩, ⟨rfl, rfl⟩⟩

end Sys2Proof.Tests
end

section
/-! The step as a run of the rows its input decodes to (R8, R48, R90). -/

namespace Sys2Proof.Machine

/-- The input's rows run on the state in which it is taken (R48). -/
theorem step_of_decode_ok {s : State} {input : Input} {rest : List Input} {rows : List Instr}
    (h : s.inputs = input :: rest) (hd : decode (rxContext s) input = .ok rows) :
    step s = runRows rows (taken rest s) := by
  rw [step_cons h, hd]

/-- A first row that answers a next state hands it to the rows behind it (R90). -/
theorem runRows_cons_of_next {i : Instr} {rest : List Instr} {s u : State} (h : exec i s = .next u) :
    runRows (i :: rest) s = runRows rest u := by
  rw [runRows_cons, h]

/-- Settles O1: one row by `runRows_one`, the tap's row before the byte's row by `runRows_cons_of_next`, and the idle
step by `step_nil`. -/
theorem stepRunsDecodedRows : Obligations.StepRunsDecodedRows := by
  intro s
  refine ⟨fun input rest h => ⟨fun i hd => ?one, fun i j t hd hi => ?two⟩, step_nil⟩
  case one =>
    rw [step_of_decode_ok h hd, runRows_one, taken]
  case two =>
    have hi : exec i (taken rest s) = .next t := hi
    rw [step_of_decode_ok h hd, runRows_cons_of_next hi, runRows_one]

end Sys2Proof.Machine
end

section
/-! The transmitter's frame reads back as the payload it was made of (R70, R71, R72, R74), so that a frame kept in `pend`
is known to be a packet frame (R20). -/

namespace Sys2Proof.Machine

/-- The terminator is escaped like every reserved byte, so the first `#` of a frame ends its payload (R70). -/
theorem ne_hash_of_mem_escByte {b c : Byte} (h : c ∈ escByte b) : c ≠ chHash := by
  unfold escByte at h
  split at h
  · rename_i hb
    obtain rfl | rfl : c = chEscape ∨ c = b ^^^ escapeMask := by simpa [escapePair] using h
    · decide
    · obtain ((rfl | rfl) | rfl) | rfl := (isReserved_iff b).mp hb <;> decide
  · rename_i hb
    obtain rfl : c = b := by simpa using h
    rintro rfl
    exact hb rfl

theorem ne_hash_of_mem_esc {payload : Bytes} {c : Byte} (h : c ∈ esc payload) : c ≠ chHash := by
  obtain ⟨b, -, hc⟩ := List.mem_flatMap.mp h
  exact ne_hash_of_mem_escByte hc

/-- The payload part of a frame is what stands before its first `#`. -/
theorem takeWhile_esc (payload rest : Bytes) :
    (esc payload ++ chHash :: rest).takeWhile (· != chHash) = esc payload := by
  rw [List.takeWhile_append_of_pos fun c hc => by simpa using ne_hash_of_mem_esc hc]
  simp

/-- An escaped byte reads as one literal token. -/
theorem tokenize_escByte_append (b : Byte) (rest : Bytes) :
    tokenize (escByte b ++ rest) = (tokenize rest).map (.lit b :: ·) := by
  unfold escByte
  split
  · exact (tokenize_escape _ rest).trans (by rw [escapeToken, escape_involutive])
  · rename_i hb
    have hb' := mt (isReserved_iff b).mpr hb
    exact tokenize_plain (fun h => hb' (.inl (.inr h))) (fun h => hb' (.inr h)) rest

theorem tokenize_esc (payload : Bytes) : tokenize (esc payload) = some (payload.map .lit) := by
  induction payload with
  | nil => rfl
  | cons b payload ih => rw [esc_cons, tokenize_escByte_append, ih]; rfl

theorem expandFrom_map_lit (out payload : Bytes) : expandFrom out (payload.map .lit) = some (out ++ payload) := by
  induction payload generalizing out with
  | nil => simp [expandFrom]
  | cons b payload ih => simp [expandFrom, expandToken, ih]

theorem expand_map_lit (payload : Bytes) : expand (payload.map .lit) = some payload :=
  expandFrom_map_lit [] payload

theorem marker_beq_percent (notif : Bool) : (marker notif == chPercent) = notif := by
  cases notif <;> decide

/-- A frame of R71 reads back as its payload and kind. -/
@[simp] theorem decodeFrame_frame (payload : Bytes) (notif : Bool) :
    decodeFrame (frame payload notif) = some (payload, notif) := by
  have hw : decodeFrame (frame payload notif) =
      decodeFrame (marker notif :: (esc payload ++ chHash :: hex2 (sum8 payload))) := rfl
  rw [hw, decodeFrame, takeWhile_esc, tokenize_esc]
  simp only [expand_map_lit, marker_beq_percent]
  exact if_pos rfl

end Sys2Proof.Machine
end

section
/-! The invariant of R29: it holds after reset, every row that is an event keeps each of its parts, and so does a step. -/

namespace Sys2Proof.Machine

/-! ### The parts of the invariant, from what makes each of them plain -/

/-- Without a command in progress and without a frame in `pend`, R29 items 1, 2, 3 and 9 ask nothing more. -/
theorem hostConsistent_of_idle {s : State} (hh : s.hostState = .idle) (hp : s.pend = none) (hr : s.retryCnt = 0) :
    hostConsistent s :=
  ⟨by simp [hh], fun _ => ⟨hp, hr⟩, by simp [hh], fun _ => hh, by simp [hh]⟩

/-- Without a command in progress nothing awaits an acknowledgment (R29 item 2). -/
theorem hostConsistent_idle {s : State} (hc : hostConsistent s) (hh : s.hostState = .idle) :
    s.pend = none ∧ s.retryCnt = 0 := by
  obtain ⟨-, hnotAck, -⟩ := hc
  exact hnotAck (by simp [hh])

/-- A framer between two frames, with the frame in progress empty (R29 items 5 and 6, U10). -/
theorem receiveConsistent_of_scan {s : State} (hrx : s.rxState = .scanForStart) (hck : s.ckCnt = false)
    (hacc : s.acc = [] ∧ s.accOvf = false ∧ s.rxNotif = false ∧ s.ckHi = 0x00 ∧ s.ckLo = 0x00) :
    receiveConsistent s :=
  ⟨by simp [hrx], fun _ => hacc, by simp [hrx], by simp [hrx], fun _ => hck⟩

/-! ### Reset -/

theorem consistent_start (p : Params) : Consistent (State.start p) :=
  ⟨hostConsistent_of_idle rfl rfl rfl, receiveConsistent_of_scan rfl rfl ⟨rfl, rfl, rfl, rfl, rfl⟩,
    fun _ => ⟨rfl, rfl⟩, ⟨capAdmits_zero _, nofun, capAdmits_zero _, Nat.zero_le _, rfl⟩, rfl⟩

/-- Settles O57: `State.reset` is a start state. -/
theorem resetMeetsTheInvariant : Obligations.ResetMeetsTheInvariant :=
  ⟨consistent_start Config.resetParams, consistent_start⟩

/-! ### The rows of an event input are event rows -/

theorem isEventRow_of_decodeByte {c : RxContext} {b : Byte} {i : Instr} (h : decodeByte c b = .ok i) :
    isEventRow i = true := by
  unfold decodeByte at h
  repeat' split at h
  all_goals cases h <;> rfl

theorem isEventRow_of_mem_decodeTap {c : RxContext} {b : Byte} {i : Instr} (h : i ∈ decodeTap c b) :
    isEventRow i = true := by
  unfold decodeTap at h
  split at h
  · obtain rfl := List.mem_singleton.mp h
    rfl
  · cases h

theorem isEventRow_decodeCommand (w : Byte) (payload : Bytes) : isEventRow (decodeCommand w payload) = true := by
  unfold decodeCommand
  repeat' split
  all_goals rfl

theorem isEventRow_decodeStrobe (line : Strobe) : isEventRow (decodeStrobe line) = true := by
  cases line <;> rfl

/-- The units' own rows are read from the units' own inputs alone (entry 3). -/
theorem isEventRow_of_decode {c : RxContext} {input : Input} {rows : List Instr} (he : isEventInput input = true)
    (h : decode c input = .ok rows) : ∀ i ∈ rows, isEventRow i = true := by
  cases input with
  | rxByte b =>
    cases hb : decodeByte c b with
    | error e => simp [decode, hb] at h
    | ok j =>
      obtain rfl : decodeTap c b ++ [j] = rows := by simpa [decode, hb] using h
      intro i hi
      obtain htap | hrow := List.mem_append.mp hi
      · exact isEventRow_of_mem_decodeTap htap
      · exact List.mem_singleton.mp hrow ▸ isEventRow_of_decodeByte hb
  | command w payload =>
    cases h
    simpa using isEventRow_decodeCommand w payload
  | strobe line =>
    cases h
    simpa using isEventRow_decodeStrobe line
  | wireForm bytes | checksumChar b | transmit bytes | response w payload => cases he

/-! ### Every row keeps each part

In each lemma the named cases are the rows that write a register of that part; the others leave the part as it is. -/

section
variable {i : Instr} {s t : State}

theorem effect_keeps_hostConsistent (h : Effect i s t) (he : isEventRow i = true) (hc : hostConsistent s) :
    hostConsistent t := by
  have hidle := hostConsistent_idle hc
  obtain ⟨hack, hnotAck, havail, hfatal, hresp⟩ := hc
  cases h with
  | ackPlus | exhaust | linkfailWaiting | linkfailAgainWaiting | reset => exact hostConsistent_of_idle rfl rfl rfl
  | availableReady hh | availableNot hh | rcvEmpty hh | rcvPacket hh | rcvHeldValid hh | rcvHeldInvalid hh
  | sndBroken hh | sndAtOnce hh | pendingBreak hh | clearBreak hh | isReliable hh | linkfailFirst hh =>
    exact hostConsistent_of_idle hh (hidle hh).1 (hidle hh).2
  | setNoack hh => exact hostConsistent_of_idle hh rfl (hidle hh).2
  | retransmit _ hh => exact ⟨hack, fun hn => absurd hh hn, havail, hfatal, hresp⟩
  | frameValid hf =>
    by_cases hw : s.hostState = .waitAvail
    · obtain ⟨hp, hr⟩ := hnotAck (by simp [hw])
      exact hostConsistent_of_idle (if_pos hw) hp hr
    · simp only [if_neg hw]
      exact ⟨hack, hnotAck, fun hw' => absurd hw' hw, hfatal, hresp⟩
  | availableWaits hh hv hf =>
    exact ⟨nofun, fun _ => hidle hh, fun _ => ⟨hv, hf⟩, fun hn => absurd hf hn, fun _ => rfl⟩
  | sndWaits _ _ hf hn =>
    exact ⟨fun _ => ⟨nofun, hn, hf⟩, fun hn => absurd rfl hn, nofun, fun hn => absurd hf hn, fun _ => rfl⟩
  | response hr => simp [isEventRow, isEventInput, hr] at he
  | _ => exact ⟨hack, hnotAck, havail, hfatal, hresp⟩

theorem effect_keeps_receiveConsistent (h : Effect i s t) (hc : receiveConsistent s) : receiveConsistent t := by
  obtain ⟨hval, hscan, hpay, hck, hcnt⟩ := hc
  cases h with
  | startPacket _ hrx | startNotification _ hrx =>
    obtain ⟨-, -, -, hhi, hlo⟩ := hscan hrx
    exact ⟨nofun, nofun, fun _ => ⟨hhi, hlo⟩, nofun, fun _ => hcnt (by simp [hrx])⟩
  | endPayload _ hrx =>
    obtain ⟨hhi, hlo⟩ := hpay hrx
    exact ⟨nofun, nofun, nofun, fun _ => ⟨hlo, fun _ => hhi⟩, fun _ => rfl⟩
  | payloadByte _ hrx | payloadByteFull _ hrx =>
    exact ⟨hval, fun hs => by simp [hrx] at hs, hpay, hck, hcnt⟩
  | checksumHi _ hrx =>
    exact ⟨hval, fun hs => by simp [hrx] at hs, fun hs => by simp [hrx] at hs, fun _ => ⟨(hck hrx).1, nofun⟩,
      fun hn => absurd hrx hn⟩
  | frameHeld _ _ _ hv => exact ⟨fun _ => hv, nofun, nofun, nofun, fun _ => rfl⟩
  | frameValid | frameInvalid | reset => exact receiveConsistent_of_scan rfl rfl ⟨rfl, rfl, rfl, rfl, rfl⟩
  | rcvPacket _ _ hrx => exact ⟨fun hv => absurd hv hrx, hscan, hpay, hck, hcnt⟩
  | rcvHeldValid _ _ hrx | rcvHeldInvalid _ _ hrx =>
    exact receiveConsistent_of_scan rfl (hcnt (by simp [hrx])) ⟨rfl, rfl, rfl, rfl, rfl⟩
  | _ => exact ⟨hval, hscan, hpay, hck, hcnt⟩

theorem effect_keeps_slotConsistent (h : Effect i s t) (hc : slotConsistent s) : slotConsistent t := by
  cases h with
  | frameValid | rcvHeldValid => exact nofun
  | rcvPacket | rcvHeldInvalid | reset => exact fun _ => ⟨rfl, rfl⟩
  | _ => exact hc

/-- Only a finite capacity turns a length away (R54). -/
theorem ne_inf_of_not_capAdmits {c : Capacity} {n : Nat} (h : capAdmits c n = false) : c ≠ .inf := by
  rintro rfl
  cases h

/-- A frame that `SND` waits with is a packet frame of a payload that fits (R143, R145). -/
theorem pendIsPacketFrame_of_frame {payload : Bytes} (hp : s.pend = some (frame payload false))
    (hfit : capAdmits s.params.maxPayload payload.length = true) : pendIsPacketFrame s = true := by
  simp [pendIsPacketFrame, hp, hfit]

theorem effect_keeps_withinCapacity (h : Effect i s t) (hc : withinCapacity s) : withinCapacity t := by
  obtain ⟨hacc, hovf, hpay, hretry, hpend⟩ := hc
  cases h with
  | startPacket | startNotification | frameInvalid => exact ⟨capAdmits_zero _, nofun, hpay, hretry, hpend⟩
  | ackPlus | exhaust | linkfailWaiting | linkfailAgainWaiting => exact ⟨hacc, hovf, hpay, Nat.zero_le _, rfl⟩
  | retransmit _ _ hlt => exact ⟨hacc, hovf, hpay, hlt, hpend⟩
  | payloadByte _ _ _ hroom => exact ⟨by simpa using hroom, hovf, hpay, hretry, hpend⟩
  | payloadByteFull _ _ _ hfull =>
    exact ⟨hacc, fun _ => ne_inf_of_not_capAdmits hfull, hpay, hretry, hpend⟩
  | frameValid _ _ _ _ hv =>
    have hfit := validPayload_fits hv
    exact ⟨capAdmits_zero _, nofun, hfit, hretry, hpend⟩
  | rcvPacket => exact ⟨hacc, hovf, capAdmits_zero _, hretry, hpend⟩
  | rcvHeldValid _ _ _ hv =>
    have hfit := validPayload_fits hv
    exact ⟨capAdmits_zero _, nofun, hfit, hretry, hpend⟩
  | rcvHeldInvalid => exact ⟨capAdmits_zero _, nofun, capAdmits_zero _, hretry, hpend⟩
  | sndWaits _ hfit => exact ⟨hacc, hovf, hpay, Nat.zero_le _, pendIsPacketFrame_of_frame rfl hfit⟩
  | setNoack => exact ⟨hacc, hovf, hpay, hretry, rfl⟩
  | reset => exact ⟨capAdmits_zero _, nofun, capAdmits_zero _, Nat.zero_le _, rfl⟩
  | _ => exact ⟨hacc, hovf, hpay, hretry, hpend⟩

/-- No row reads or writes what the environment still has to present (entry 1). -/
theorem effect_inputs (h : Effect i s t) : t.inputs = s.inputs := by
  cases h <;> rfl

theorem exec_keeps_consistent (h : exec i s = .next t) (he : isEventRow i = true) (hc : Consistent s) :
    Consistent t := by
  obtain ⟨hhost, hrx, hslot, hcap, hin⟩ := hc
  have ht := exec_effect h
  exact ⟨effect_keeps_hostConsistent ht he hhost, effect_keeps_receiveConsistent ht hrx,
    effect_keeps_slotConsistent ht hslot, effect_keeps_withinCapacity ht hcap, by rwa [effect_inputs ht]⟩

end

/-! ### The step -/

theorem runRows_keeps_consistent {rows : List Instr} {s t : State} (he : ∀ i ∈ rows, isEventRow i = true)
    (hc : Consistent s) (h : runRows rows s = .next t) : Consistent t := by
  induction rows generalizing s with
  | nil => cases h; exact hc
  | cons i rest ih =>
    obtain ⟨u, hu, hrest⟩ := runRows_cons_eq_next.mp h
    exact ih (fun j hj => he j (List.mem_cons_of_mem i hj)) (exec_keeps_consistent hu (he i List.mem_cons_self) hc) hrest

/-- Taking an input touches no register, so the invariant is left with the inputs still to come. -/
theorem consistent_taken {s : State} {rest : List Input} (hc : Consistent s)
    (hin : rest.all isEventInput = true) : Consistent (taken rest s) := by
  obtain ⟨hhost, hrx, hslot, hcap, -⟩ := hc
  exact ⟨hhost, hrx, hslot, hcap, hin⟩

/-- Settles O58: an idle step moves no register, and a step with an event runs event rows, each of which keeps the
invariant (`exec_keeps_consistent`). -/
theorem stepKeepsTheInvariant : Obligations.StepKeepsTheInvariant := by
  intro s t hc h
  have ⟨_, _, _, _, hin⟩ := hc
  cases hi : s.inputs with
  | nil =>
    obtain rfl : { s with brkClr := false } = t := by simpa [step_nil hi] using h
    exact hc
  | cons input rest =>
    obtain ⟨hev, hrest⟩ : isEventInput input = true ∧ rest.all isEventInput = true := by simpa [hi] using hin
    rw [step_cons hi] at h
    cases hd : decode (rxContext s) input with
    | error e => simp [hd] at h
    | ok rows =>
      rw [hd] at h
      exact runRows_keeps_consistent (isEventRow_of_decode hev hd) (consistent_taken hc hrest) h

end Sys2Proof.Machine
end

section
/-! The history of the registers over one row: what `tx_out` gains, and which rows write `noack`, `fatal` and the flags
of R26. In each proof the named cases are the rows that write the register. -/

namespace Sys2Proof.Machine

/-! ### `tx_out` -/

/-- What an event row may hand to the transport (R42): nothing, one acknowledgment, the frame in `pend`, or the frame of
a `SND`. -/
def eventOutput (i : Instr) (s : State) (out : Bytes) : Prop :=
  out = [] ∨ out = [0x2b] ∨ out = [0x2d] ∨ s.pend = some out ∨
    ∃ payload notif, i = .snd payload notif ∧ out = frame payload notif

theorem eventOutput_nil (i : Instr) (s : State) : eventOutput i s [] := .inl rfl

/-- An acknowledgment that goes out when it is due. -/
theorem eventOutput_ack (i : Instr) (s : State) (due : Bool) {b : Byte} (hb : b = 0x2b ∨ b = 0x2d) :
    eventOutput i s (if due then [b] else []) := by
  cases due with
  | false => exact .inl rfl
  | true => exact hb.elim (fun h => .inr (.inl (h ▸ rfl))) (fun h => .inr (.inr (.inl (h ▸ rfl))))

/-- A retransmission on a connection that may be broken (R31, R158; entry 10 where `pend` is none). -/
theorem eventOutput_retransmission (i : Instr) (s : State) :
    eventOutput i s (if broken s then [] else s.pend.getD []) := by
  cases broken s with
  | true => exact .inl rfl
  | false =>
    cases hp : s.pend with
    | none => exact .inl rfl
    | some f => exact .inr (.inr (.inr (.inl hp)))

theorem effect_txOut {i : Instr} {s t : State} (h : Effect i s t) :
    ∃ out, t.txOut = s.txOut ++ out ∧ (isEventRow i = true → eventOutput i s out) := by
  cases h with
  | retransmit => exact ⟨_, rfl, fun _ => eventOutput_retransmission i s⟩
  | frameValid | rcvHeldValid => exact ⟨_, rfl, fun _ => eventOutput_ack _ s _ (.inl rfl)⟩
  | frameInvalid | rcvHeldInvalid => exact ⟨_, rfl, fun _ => eventOutput_ack _ s _ (.inr rfl)⟩
  | sndAtOnce | sndWaits => exact ⟨_, rfl, fun _ => .inr (.inr (.inr (.inr ⟨_, _, rfl, rfl⟩)))⟩
  | transmit hx => exact ⟨_, rfl, fun he => by simp [isEventRow, isEventInput, hx] at he⟩
  | _ => exact ⟨[], (List.append_nil _).symm, fun _ => eventOutput_nil _ s⟩

/-- Settles O56: `effect_txOut` of the row that ran. -/
theorem transmitRecordOnlyGrows : Obligations.TransmitRecordOnlyGrows :=
  fun _ _ _ h => effect_txOut (exec_effect h)

/-! ### The flags of R26 -/

/-- How one row may move a flag: it keeps it, sets it by one of the rows `sets`, or clears it by one of the rows
`clears`. -/
inductive FlagMove (sets clears : Prop) (old : Bool) : Bool → Prop
  | kept : FlagMove sets clears old old
  | set (h : sets) : FlagMove sets clears old true
  | clear (h : clears) : FlagMove sets clears old false

theorem FlagMove.of_set {sets clears : Prop} {old new : Bool} (h : FlagMove sets clears old new)
    (hold : old = false) (hnew : new = true) : sets := by
  cases h with
  | kept => simp [hold] at hnew
  | set hs => exact hs
  | clear => cases hnew

theorem FlagMove.of_clear {sets clears : Prop} {old new : Bool} (h : FlagMove sets clears old new)
    (hold : old = true) (hnew : new = false) : clears := by
  cases h with
  | kept => simp [hold] at hnew
  | set => cases hnew
  | clear hc => exact hc

section
variable {i : Instr} {s t : State}

theorem effect_pktValid (h : Effect i s t) :
    FlagMove (∃ b, i = .rxbChecksumLo b) (i = .rcv ∨ i = .reset) s.pktValid t.pktValid := by
  cases h with
  | frameValid => exact .set ⟨_, rfl⟩
  | rcvPacket | rcvHeldInvalid => exact .clear (.inl rfl)
  | rcvHeldValid _ hv => simpa only [hv] using FlagMove.kept
  | reset => exact .clear (.inr rfl)
  | _ => exact .kept

/-- `pkt_notif` takes the kind of the frame delivered, so it may move either way. -/
theorem effect_pktNotif (h : Effect i s t) :
    t.pktNotif = s.pktNotif ∨ (∃ b, i = .rxbChecksumLo b) ∨ i = .rcv ∨ i = .reset := by
  cases h with
  | frameValid => exact .inr (.inl ⟨_, rfl⟩)
  | rcvPacket | rcvHeldValid | rcvHeldInvalid => exact .inr (.inr (.inl rfl))
  | reset => exact .inr (.inr (.inr rfl))
  | _ => exact .inl rfl

theorem effect_rxNotif (h : Effect i s t) :
    FlagMove (i = .rxbStartNotification)
      (i = .rxbStartPacket ∨ (∃ b, i = .rxbChecksumLo b) ∨ i = .rcv ∨ i = .reset) s.rxNotif t.rxNotif := by
  cases h with
  | startPacket => exact .clear (.inl rfl)
  | startNotification => exact .set rfl
  | frameValid | frameInvalid => exact .clear (.inr (.inl ⟨_, rfl⟩))
  | rcvHeldValid | rcvHeldInvalid => exact .clear (.inr (.inr (.inl rfl)))
  | reset => exact .clear (.inr (.inr (.inr rfl)))
  | _ => exact .kept

theorem effect_accOvf (h : Effect i s t) :
    FlagMove (∃ b, i = .rxbPayloadByte b)
      (i = .rxbStartPacket ∨ i = .rxbStartNotification ∨ (∃ b, i = .rxbChecksumLo b) ∨ i = .rcv ∨ i = .reset)
      s.accOvf t.accOvf := by
  cases h with
  | startPacket => exact .clear (.inl rfl)
  | startNotification => exact .clear (.inr (.inl rfl))
  | payloadByteFull => exact .set ⟨_, rfl⟩
  | frameValid | frameInvalid => exact .clear (.inr (.inr (.inl ⟨_, rfl⟩)))
  | rcvHeldValid | rcvHeldInvalid => exact .clear (.inr (.inr (.inr (.inl rfl))))
  | reset => exact .clear (.inr (.inr (.inr (.inr rfl))))
  | _ => exact .kept

theorem effect_noack (h : Effect i s t) : FlagMove (i = .setNoack) (i = .reset) s.noack t.noack := by
  cases h with
  | setNoack => exact .set rfl
  | reset => exact .clear rfl
  | _ => exact .kept

theorem effect_brk (h : Effect i s t) :
    FlagMove (i = .rxbBreakTap ∨ i = .brkin) (i = .clearBreak ∨ i = .reset) s.brk t.brk := by
  cases h with
  | breakTap => exact .set (.inl rfl)
  | brkin => exact .set (.inr rfl)
  | clearBreak => exact .clear (.inl rfl)
  | reset => exact .clear (.inr rfl)
  | _ => exact .kept

end

/-- Settles O60: each flag moves as its own lemma says. -/
theorem flagsAreWrittenAsListed : Obligations.FlagsAreWrittenAsListed := by
  intro i s t h
  have he := exec_effect h
  exact ⟨(effect_pktValid he).of_set, (effect_pktValid he).of_clear, (effect_pktNotif he).resolve_left,
    (effect_rxNotif he).of_set, (effect_rxNotif he).of_clear, (effect_accOvf he).of_set, (effect_accOvf he).of_clear,
    (effect_noack he).of_set, (effect_noack he).of_clear, (effect_brk he).of_set, (effect_brk he).of_clear⟩

/-! ### `fatal` -/

/-- R23, R158, R183: a healthy connection fails by `LINKFAIL` or by the last negative event, and a failure stays until
`RESET` (entry 11). -/
theorem effect_fatal {i : Instr} {s t : State} (h : Effect i s t) :
    t.fatal = s.fatal ∨ i = .reset ∨
      s.fatal = .none ∧ (i = .linkfail ∧ t.fatal = .transportFailure ∨
        (i = .rxbAckMinus ∨ i = .ackTimeout) ∧ t.fatal = .retryExhausted) := by
  cases h with
  | exhaust hi =>
    cases hb : broken s with
    | true => exact .inl rfl
    | false => exact .inr (.inr ⟨(broken_eq_false s).mp hb, .inr ⟨hi.imp And.left id, rfl⟩⟩)
  | linkfailFirst _ hf | linkfailWaiting _ hf => exact .inr (.inr ⟨hf, .inl ⟨rfl, rfl⟩⟩)
  | reset => exact .inr (.inl rfl)
  | _ => exact .inl rfl

/-- Settles O59, from the writers of `noack` (`effect_noack`) and of `fatal` (`effect_fatal`). -/
theorem modeAndFatalAreOneWay : Obligations.ModeAndFatalAreOneWay := by
  intro i s t h hi
  have hnoack := effect_noack (exec_effect h)
  refine ⟨fun hn => ?keeps, hnoack.of_set, ?fatal⟩
  case keeps => exact Bool.eq_true_of_not_eq_false fun hn' => hi (hnoack.of_clear hn hn')
  case fatal =>
    obtain hkept | hreset | ⟨hf, ⟨hl, ht⟩ | ⟨hm, ht⟩⟩ := effect_fatal (exec_effect h)
    · exact ⟨fun _ => hkept, fun hf ht => by simp [hkept, hf] at ht, fun hf ht => by simp [hkept, hf] at ht⟩
    · exact absurd hreset hi
    · exact ⟨fun hn => absurd hf hn, fun _ _ => hl, by simp [ht]⟩
    · exact ⟨fun hn => absurd hf hn, by simp [ht], fun _ _ => hm⟩

end Sys2Proof.Machine
end

section
/-! The words of the host port (R27, R79), and the rows of the transmit stream and of the response port, written out. -/

namespace Sys2Proof.Machine

/-! ### The words of the host port -/

/-- The flags of the status word, each at its bit (R27). -/
theorem statusWord_flags (s : State) :
    (statusWord s).getLsbD 0 = s.pktValid ∧ (statusWord s).getLsbD 1 = s.pktNotif ∧
    (statusWord s).getLsbD 2 = s.noack ∧ (statusWord s).getLsbD 3 = s.brk ∧
    (statusWord s).getLsbD 11 = s.ckCnt ∧ (statusWord s).getLsbD 12 = s.accOvf ∧
    (statusWord s).getLsbD 13 = s.rxNotif ∧ (statusWord s).getLsbD 14 = rxReady s ∧
    (statusWord s).getLsbD 15 = false := by
  simp only [statusWord, BitVec.getLsbD_append, BitVec.getLsbD_ofBool]
  simp

/-- The fields of the status word that are wider than a bit: what stands below a field is passed over, and what stands
above it is cut off (R27). -/
theorem statusWord_codes (s : State) :
    (statusWord s).extractLsb' 4 3 = fatalCode s.fatal ∧
    (statusWord s).extractLsb' 7 2 = hostStateCode s.hostState ∧
    (statusWord s).extractLsb' 9 2 = rxStateCode s.rxState := by
  simp (disch := decide) only [statusWord, BitVec.extractLsb'_append_eq_of_le,
    BitVec.extractLsb'_append_eq_of_add_le]
  simp

/-- Settles O9: the flags and the codes of the status word, and the response words computed. -/
theorem hostPortWords : Obligations.HostPortWords := by
  refine ⟨fun s => ?status, rfl, by decide, fun _ n => ?packet, rfl, rfl, rfl, rfl⟩
  case packet => cases n <;> rfl
  obtain ⟨h0, h1, h2, h3, h11, h12, h13, h14, h15⟩ := statusWord_flags s
  obtain ⟨hf, hh, hr⟩ := statusWord_codes s
  exact ⟨h0, h1, h2, h3, hf, hh, hr, h11, h12, h13, h14, h15⟩

/-! ### The transmit stream -/

/-- The bytes of an acknowledgment that R114 and R115 let out on a connection that R31 lets speak. -/
theorem emitAck_eq_ite (b : Byte) (s : State) :
    emitAck b s =
      { s with txOut := s.txOut ++ (if s.rxNotif = false ∧ s.noack = false ∧ s.fatal = .none then [b] else []) } := by
  rw [emitAck_eq]
  simp [ackDue, broken_eq_false, and_assoc]

/-- `Emit` on a connection that is healthy or broken (R31). -/
theorem emit_eq_ite (bytes : Bytes) (s : State) :
    emit bytes s = { s with txOut := s.txOut ++ (if s.fatal = .none then bytes else []) } := by
  rw [emit_eq]
  by_cases hf : s.fatal = .none <;> simp [broken, hf]

/-- Settles O54: each row is its `Emit` (`emitAck_eq_ite`, `emit_eq_ite`). -/
theorem transmitRowsEmit : Obligations.TransmitRowsEmit := by
  intro s
  refine ⟨congrArg _ (emitAck_eq_ite chPlus s), congrArg _ (emitAck_eq_ite chMinus s), fun payload notif => ?frame,
    fun b => congrArg _ (emit_eq_ite (escapePair b) s)⟩
  have hframe : frame payload notif =
      [if notif = true then 0x25 else 0x24] ++ esc payload ++ [0x23] ++ hex2 (sum8 payload) := by
    simp [frame, marker]
  rw [← hframe]
  exact congrArg _ (emit_eq_ite (frame payload notif) s)

/-! ### The response port -/

/-- Settles O55: each row is `Respond` of its value. -/
theorem responseRowsRespond : Obligations.ResponseRowsRespond :=
  fun _ => ⟨rfl, fun _ => rfl, fun _ _ => rfl, fun _ => rfl⟩

end Sys2Proof.Machine
end

section
/-! The packet slot over one row (R51 item 4): a delivery finds the slot empty (R111, D13), so that a packet in it leaves
by `RCV` and `RESET` alone. -/

namespace Sys2Proof.Machine

/-- The slot is written by the delivery of a frame, which needs it empty, by the three cases of `RCV` with a packet, and
by `RESET`. -/
theorem effect_keeps_fullSlot {i : Instr} {s t : State} (h : Effect i s t) (hrcv : i ≠ .rcv) (hreset : i ≠ .reset)
    (hfull : s.pktValid = true) :
    t.pktValid = true ∧ t.pktPayload = s.pktPayload ∧ t.pktNotif = s.pktNotif := by
  cases h with
  | frameValid _ _ _ hempty => simp [hfull] at hempty
  | rcvPacket | rcvHeldValid | rcvHeldInvalid => exact absurd rfl hrcv
  | reset => exact absurd rfl hreset
  | _ => exact ⟨hfull, rfl, rfl⟩

/-- Settles O43: `effect_keeps_fullSlot` of the row that ran. -/
theorem onlyRcvAndResetEmptyTheSlot : Obligations.OnlyRcvAndResetEmptyTheSlot :=
  fun _ _ _ h => effect_keeps_fullSlot (exec_effect h)

end Sys2Proof.Machine
end

section
/-! The transmitter's checksum and escapes (R68, R69, R70), and what the receiver reads back from them (R73, R74, R75). -/

namespace Sys2Proof.Machine

/-! ### The checksum and its digits -/

/-- Settles O23: `Sum8` keeps the low eight bits of the sum. -/
theorem checksumIsTheSumModulo256 : Obligations.ChecksumIsTheSumModulo256 :=
  ⟨sum8_nil, fun _ => BitVec.toNat_ofNat _ _⟩

/-- The two nibbles of a byte, high nibble first, assemble the byte (R75, R83). -/
theorem checksumDigit_nibbles (v : Byte) :
    checksumDigit (checksumDigit 0 (v.extractLsb' 4 4)) (v.extractLsb' 0 4) = v := by
  apply BitVec.eq_of_toNat_eq
  simp only [checksumDigit, BitVec.extractLsb'_toNat, BitVec.toNat_ofNat, Nat.shiftRight_eq_div_pow]
  omega

theorem carriedChecksum_of_hexVal {hi lo : Byte} {h l : BitVec 4} (hh : hexVal hi = some h) (hl : hexVal lo = some l) :
    carriedChecksum hi lo = some (checksumDigit (checksumDigit 0 h) l) := by
  rw [carriedChecksum, hh, hl]

/-- The characters that are digits are the two ranges of R75. -/
theorem hexVal_ne_none_iff (ch : Byte) : hexVal ch ≠ none ↔ 0x30 ≤ ch ∧ ch ≤ 0x39 ∨ 0x61 ≤ ch ∧ ch ≤ 0x66 := by
  unfold hexVal
  split
  case isTrue h => simp [BitVec.le_def, h]
  case isFalse h =>
    split
    case isTrue h' => simp [BitVec.le_def, h']
    case isFalse h' => simp only [BitVec.le_def]; tauto

/-- Settles O24: each character is the digit of its nibble (`hexVal_hexChar`), and the nibbles assemble the byte. -/
theorem checksumDigitsReadBack : Obligations.ChecksumDigitsReadBack := by
  refine ⟨fun v => ⟨_, _, rfl, hexVal_hexChar _, hexVal_hexChar _, ?_⟩, hexVal_ne_none_iff⟩
  rw [carriedChecksum_of_hexVal (hexVal_hexChar _) (hexVal_hexChar _), checksumDigit_nibbles]

/-! ### The escaped payload -/

/-- The reserved bytes in the order of R70. -/
theorem isReserved_iff_mem (b : Byte) :
    isReserved b = true ↔ b = 0x24 ∨ b = 0x23 ∨ b = 0x7d ∨ b = 0x2a := by
  rw [isReserved_iff, or_assoc, or_assoc]

theorem escByte_eq_ite (b : Byte) :
    escByte b = if b = 0x24 ∨ b = 0x23 ∨ b = 0x7d ∨ b = 0x2a then [0x7d, b ^^^ 0x20] else [b] :=
  if_congr (isReserved_iff_mem b) rfl rfl

theorem length_escByte (b : Byte) : 1 ≤ (escByte b).length ∧ (escByte b).length ≤ 2 := by
  unfold escByte
  split <;> simp [escapePair]

theorem length_esc (payload : Bytes) :
    payload.length ≤ (esc payload).length ∧ (esc payload).length ≤ 2 * payload.length := by
  induction payload with
  | nil => simp
  | cons b payload ih =>
    have hb := length_escByte b
    simp only [esc_cons, List.length_append, List.length_cons]
    omega

/-- What the transmitter writes between the markers: 0x7D, and bytes that are not reserved (R70). -/
theorem eq_escape_or_not_reserved_of_mem_esc {payload : Bytes} {c : Byte} (h : c ∈ esc payload) :
    c = chEscape ∨ isReserved c = false := by
  obtain ⟨b, -, hc⟩ := List.mem_flatMap.mp h
  unfold escByte at hc
  split at hc
  case isTrue hb =>
    obtain rfl | rfl : c = chEscape ∨ c = b ^^^ escapeMask := by simpa [escapePair] using hc
    · exact .inl rfl
    · obtain ((rfl | rfl) | rfl) | rfl := (isReserved_iff b).mp hb <;> decide
  case isFalse hb =>
    obtain rfl := List.mem_singleton.mp hc
    exact .inr (Bool.eq_false_of_not_eq_true hb)

/-- A reserved byte other than 0x7D does not stand in an escaped payload. -/
theorem not_mem_esc {c : Byte} (hc : c ≠ chEscape) (hr : isReserved c = true) (payload : Bytes) : c ∉ esc payload :=
  fun h => (eq_escape_or_not_reserved_of_mem_esc h).elim hc (by simp [hr])

/-- An escaped byte is cut off as one form. -/
theorem decodeWirePayload_escByte_append (b : Byte) (rest : Bytes) :
    decodeWirePayload (escByte b ++ rest) = (decodeWirePayload rest).map
      ((if b = 0x24 ∨ b = 0x23 ∨ b = 0x7d ∨ b = 0x2a then .wpEscapePair (b ^^^ 0x20) else .wpLiteral b) :: ·) := by
  rw [escByte_eq_ite]
  split
  case isTrue => exact decodeWirePayload_escape _ rest
  case isFalse hb => exact decodeWirePayload_plain (fun h => hb (by simp [h])) (fun h => hb (by simp [h])) rest

theorem decodeWirePayload_esc (payload : Bytes) :
    decodeWirePayload (esc payload) = some (payload.map fun b =>
      if b = 0x24 ∨ b = 0x23 ∨ b = 0x7d ∨ b = 0x2a then .wpEscapePair (b ^^^ 0x20) else .wpLiteral b) := by
  induction payload with
  | nil => rfl
  | cons b payload ih => rw [esc_cons, decodeWirePayload_escByte_append, ih]; rfl

/-- Settles O25: the form of each byte, and with it the length, the bytes that occur and the cut into rows. -/
theorem escapedPayloadIsClean : Obligations.EscapedPayloadIsClean := by
  intro payload
  obtain ⟨hlow, hhigh⟩ := length_esc payload
  exact ⟨congrArg payload.flatMap (funext escByte_eq_ite), hlow, hhigh, not_mem_esc (by decide) rfl payload,
    not_mem_esc (by decide) rfl payload, not_mem_esc (by decide) rfl payload, decodeWirePayload_esc payload⟩

/-- A literal adds its byte, so the token sum of a payload's own tokens is the payload's checksum (R68, R73). -/
theorem tokSum_map_lit (payload : Bytes) : tokSum (payload.map .lit) = sum8 payload := by
  simp only [tokSum, sum8, List.map_map]
  rfl

/-- Settles O26: an escaped payload reads as one literal token for each byte (`tokenize_esc`). -/
theorem escapedPayloadReadsBack : Obligations.EscapedPayloadReadsBack :=
  fun payload => ⟨_, tokenize_esc payload, tokSum_map_lit payload, expand_map_lit payload⟩

end Sys2Proof.Machine
end

section
/-! The encoder against the decoder, one unit at a time (R71, R72, R75 to R80): what a unit's decoder answers is the row
that encodes to its input, and a well-formed row is what the decoder answers for its own bits. -/

namespace Sys2Proof.Machine

section
variable {c : RxContext} {i : Instr}

/-! ### The receive stream (R76) -/

/-- A byte is discarded where none of the four rows tried before takes it. -/
theorem rowSelected_rxbDiscard_iff (c : RxContext) (b : Byte) :
    rowSelected c (.rxbDiscard b) = true ↔ (c.broken = false ∧ c.rxState = .scanForStart) ∧ b ≠ chDollar ∧
      b ≠ chPercent ∧ ¬ (b = chPlus ∧ c.waitAck = true) ∧ ¬ (b = chMinus ∧ c.waitAck = true) := by
  simp [rowSelected]
  tauto

/-- A byte is read as a row of the receive framer that its receive state selects. -/
theorem encode_of_decodeByte {b : Byte} (h : decodeByte c b = .ok i) :
    encode i = .rxByte b ∧ i.wellFormed = true ∧ rowSelected c i = true := by
  unfold decodeByte at h
  repeat' split at h
  all_goals cases h
  case h_1.isFalse.isFalse.isFalse.isFalse hb _ hrx h1 h2 h3 h4 =>
    exact ⟨rfl, by simpa [Instr.wellFormed] using ⟨h1, h2⟩,
      (rowSelected_rxbDiscard_iff c b).mpr ⟨⟨Bool.eq_false_of_not_eq_true hb, hrx⟩, h1, h2, h3, h4⟩⟩
  all_goals simp_all [encode, Instr.wellFormed, rowSelected]

/-- The receive state that selects a row leaves no other row for its byte. -/
theorem decodeByte_of_encode {b : Byte} (htap : i ≠ .rxbBreakTap) (hsel : rowSelected c i = true)
    (h : encode i = .rxByte b) : decodeByte c b = .ok i := by
  cases i with
  | rxbBreakTap => exact absurd rfl htap
  | rxbDiscard =>
    cases h
    obtain ⟨⟨hb, hrx⟩, h1, h2, h3, h4⟩ := (rowSelected_rxbDiscard_iff c b).mp hsel
    rw [decodeByte, if_neg (by simp [hb]), hrx]
    simp only [if_neg h1, if_neg h2, if_neg h3, if_neg h4]
  | rxbStartPacket | rxbStartNotification | rxbAckPlus | rxbAckMinus | rxbEndPayload | rxbPayloadByte
  | rxbChecksumHi | rxbChecksumLo | rxbFatalDiscard =>
    cases h
    simp_all [rowSelected, decodeByte]
  | _ => cases h

/-- A row that no byte stands for applies in every receive state. -/
theorem rowSelected_of_encode_ne_rxByte (c : RxContext) (h : ∀ b, encode i ≠ .rxByte b) : rowSelected c i = true := by
  cases i with
  | rxbBreakTap | rxbStartPacket | rxbStartNotification | rxbAckPlus | rxbAckMinus | rxbDiscard | rxbEndPayload
  | rxbPayloadByte | rxbChecksumHi | rxbChecksumLo | rxbFatalDiscard => exact absurd rfl (h _)
  | _ => rfl

/-! ### The command port (R77, R78, R82) -/

/-- The assigned words, as the decoder tries them. -/
theorem isAssignedCommand_iff : ∀ w : Byte, isAssignedCommand w = true ↔
    w &&& 0xef = 0x01 ∨ w = 0x02 ∨ w &&& 0xef = 0x03 ∨ w = 0x04 ∨ w = 0x05 ∨ w = 0x06 ∨ w = 0x07 := by decide

/-- `AVAILABLE` and `SND` are the two commands whose word carries a flag (R78). -/
theorem commandWord_of_masked : ∀ w : Byte,
    (w &&& 0xef = 0x01 → commandWord 1 (w.getLsbD 4) = w) ∧ (w &&& 0xef = 0x03 → commandWord 3 (w.getLsbD 4) = w) := by
  decide

/-- A command word is read as `CMD.RESERVED` where R78 assigns it to no command. -/
theorem decodeCommand_eq_cmdReserved_iff (w : Byte) (payload : Bytes) :
    decodeCommand w payload = .cmdReserved w ↔ isAssignedCommand w = false := by
  rw [← Bool.not_eq_true, isAssignedCommand_iff]
  unfold decodeCommand
  repeat' split
  all_goals simp_all

theorem encode_decodeCommand (w : Byte) (payload : Bytes) :
    (∃ p, encode (decodeCommand w payload) = .command w p) ∧ (decodeCommand w payload).wellFormed = true := by
  have ⟨havail, hsnd⟩ := commandWord_of_masked w
  cases hr : isAssignedCommand w with
  | false =>
    rw [(decodeCommand_eq_cmdReserved_iff w payload).mpr hr]
    exact ⟨⟨[], rfl⟩, by simp [Instr.wellFormed, hr]⟩
  | true =>
    have hw := (isAssignedCommand_iff w).mp hr
    unfold decodeCommand
    repeat' split
    all_goals simp_all [encode, Instr.wellFormed, commandWord]

theorem decodeCommand_of_encode {w : Byte} {payload : Bytes} (hwf : i.wellFormed = true)
    (h : encode i = .command w payload) : decodeCommand w payload = i := by
  cases i with
  | available flag | snd _ flag => cases h; cases flag <;> rfl
  | rcv | pendingBreak | clearBreak | isReliable | setNoack => cases h; rfl
  | cmdReserved =>
    cases h
    exact (decodeCommand_eq_cmdReserved_iff w []).mpr (by simpa [Instr.wellFormed] using hwf)
  | _ => cases h

/-! ### The strobes (R80) -/

theorem encode_decodeStrobe (line : Strobe) :
    encode (decodeStrobe line) = .strobe line ∧ (decodeStrobe line).wellFormed = true := by
  cases line <;> exact ⟨rfl, rfl⟩

theorem decodeStrobe_of_encode {line : Strobe} (h : encode i = .strobe line) : decodeStrobe line = i := by
  cases i with
  | brkin | ackTimeout | linkfail | reset => cases h; rfl
  | _ => cases h

/-! ### The forms of a wire payload (R72) -/

theorem encode_of_decodeWireForm {bytes : Bytes} (h : decodeWireForm bytes = .ok i) :
    encode i = .wireForm bytes ∧ i.wellFormed = true := by
  unfold decodeWireForm at h
  repeat' split at h
  all_goals cases h <;> simp_all [encode, Instr.wellFormed]

theorem decodeWireForm_of_encode {bytes : Bytes} (hwf : i.wellFormed = true) (h : encode i = .wireForm bytes) :
    decodeWireForm bytes = .ok i := by
  cases i with
  | wpEscapePair | wpRunlengthPair => cases h; rfl
  | wpLiteral => cases h; simp_all [Instr.wellFormed, decodeWireForm]
  | _ => cases h

/-! ### The checksum characters (R75) -/

/-- The seven classes and the class of every other byte cover the bytes, each with its own bits. -/
theorem encode_decodeChecksumChar : ∀ b : Byte,
    encode (decodeChecksumChar b) = .checksumChar b ∧ (decodeChecksumChar b).wellFormed = true := by decide

theorem decodeChecksumChar_of_hexVal_none : ∀ b : Byte, hexVal b = none → decodeChecksumChar b = .ckInvalid b := by
  decide

theorem decodeChecksumChar_of_encode {b : Byte} (hwf : i.wellFormed = true) (h : encode i = .checksumChar b) :
    decodeChecksumChar b = i := by
  cases i with
  | ckDigit0to7 n | ckDigit8to9 n | ckLetterBC n | ckLetterDE n => cases h; revert n; decide
  | ckLetterA | ckLetterF => cases h; rfl
  | ckInvalid =>
    cases h
    exact decodeChecksumChar_of_hexVal_none b (by simpa [Instr.wellFormed] using hwf)
  | _ => cases h

/-! ### The transmit stream (R42, R65, R71) -/

theorem frame_of_decodeFrame {bytes payload : Bytes} {notif : Bool} (h : decodeFrame bytes = some (payload, notif)) :
    frame payload notif = bytes := by
  unfold decodeFrame at h
  repeat' split at h
  all_goals cases h
  assumption

/-- Every acknowledgment and every escape pair is shorter than three bytes, so longer bytes can only be a frame. -/
theorem decodeTransmission_of_length : ∀ {bytes : Bytes}, 3 ≤ bytes.length →
    decodeTransmission bytes = match decodeFrame bytes with
      | some (payload, notif) => .ok (.txFrame payload notif)
      | none => .error .notATransmission
  | _ :: _ :: _ :: _, _ => rfl

theorem encode_of_decodeTransmission {bytes : Bytes} (h : decodeTransmission bytes = .ok i) :
    encode i = .transmit bytes ∧ i.wellFormed = true := by
  unfold decodeTransmission at h
  repeat' split at h
  all_goals cases h
  case h_1.isTrue hb => exact ⟨by rw [hb]; rfl, rfl⟩
  case h_1.isFalse.isTrue hb => exact ⟨by rw [hb]; rfl, rfl⟩
  case h_2.isTrue hpair => exact ⟨by simp [encode, escapePair, hpair.1], hpair.2⟩
  case h_1 hframe => exact ⟨congrArg Input.transmit (frame_of_decodeFrame hframe), rfl⟩

theorem decodeTransmission_of_encode {bytes : Bytes} (hwf : i.wellFormed = true) (h : encode i = .transmit bytes) :
    decodeTransmission bytes = .ok i := by
  cases i with
  | txAckPlus | txAckMinus => cases h; rfl
  | txFrame payload notif =>
    cases h
    rw [decodeTransmission_of_length (by simp [frame, hex2]), decodeFrame_frame]
  | txEscapedByte b =>
    cases h
    have hb : isReserved b = true := hwf
    simp [decodeTransmission, escapePair, hb]
  | _ => cases h

/-! ### The response port (R79) -/

theorem responseWord_of_masked : ∀ w : Byte,
    (w &&& 0xfb = 0x01 → responseWord (.bool (w.getLsbD 2)) = w) ∧
    (w &&& 0xfb = 0x02 → responseWord (.packet [] (w.getLsbD 2)) = w) := by decide

theorem errorCode_of_errorOfCode {n : Nat} {code : RspError} (h : errorOfCode n = some code) : errorCode code = n := by
  unfold errorOfCode at h
  repeat' split at h
  all_goals cases h <;> simp_all [errorCode]

/-- The code of an error word stands in its high nibble, under a clear bit 7. -/
theorem ofNat_code_of_masked : ∀ w : Byte, w &&& 0x8f = 0x03 → BitVec.ofNat 8 (3 + 16 * (w.toNat / 16)) = w := by
  decide

theorem encode_of_decodeResponse {w : Byte} {payload : Bytes} (h : decodeResponse w payload = .ok i) :
    (∃ p, encode i = .response w p) ∧ i.wellFormed = true := by
  have ⟨hbool, hpacket⟩ := responseWord_of_masked w
  unfold decodeResponse at h
  repeat' split at h
  all_goals cases h
  case isTrue hw => exact ⟨⟨[], by rw [hw]; rfl⟩, rfl⟩
  case isFalse.isTrue hw => exact ⟨⟨[], congrArg (Input.response · []) (hbool hw)⟩, rfl⟩
  case isFalse.isFalse.isTrue hw => exact ⟨⟨payload, congrArg (Input.response · payload) (hpacket hw)⟩, rfl⟩
  case h_1 hw _ code hcode =>
    have hword : responseWord (.error code) = w := by
      rw [responseWord, errorCode_of_errorOfCode hcode, ofNat_code_of_masked w hw]
    exact ⟨⟨[], congrArg (Input.response · []) hword⟩, rfl⟩

theorem decodeResponse_of_encode {w : Byte} {payload : Bytes} (h : encode i = .response w payload) :
    decodeResponse w payload = .ok i := by
  cases i with
  | respDone => cases h; rfl
  | respBool flag => cases h; cases flag <;> rfl
  | respPacket _ flag => cases h; cases flag <;> simp [decodeResponse, responseWord]
  | respError code => cases h; cases code <;> rfl
  | _ => cases h

end

/-! ### The statements about bytes and words -/

/-- Settles O2: each byte is the one its row encodes to, so `decodeByte_of_encode` gives its class. -/
theorem receivedByteClasses : Obligations.ReceivedByteClasses := by
  intro c hc
  refine ⟨fun hrx => ⟨?dollar, ?percent, fun hw => ⟨?plus, ?minus⟩, fun b h1 h2 h3 => ?discard⟩,
    fun hrx => ⟨?hash, fun b hb => ?payload⟩, fun hrx b => ?checksum, fun hrx b => ?held, fun hrx b => ?tap⟩
  case discard =>
    refine decodeByte_of_encode nofun ((rowSelected_rxbDiscard_iff c b).mpr ⟨⟨hc, hrx⟩, h1, h2, ?_, ?_⟩) rfl
    · rintro ⟨rfl, hw⟩; simp [h3 (.inl rfl)] at hw
    · rintro ⟨rfl, hw⟩; simp [h3 (.inr rfl)] at hw
  case checksum =>
    split
    case isTrue hck => exact decodeByte_of_encode nofun (by simp [rowSelected, hc, hrx, hck]) rfl
    case isFalse hck => exact decodeByte_of_encode nofun (by simp [rowSelected, hc, hrx, hck]) rfl
  case held => simp [decodeByte, hc, hrx]
  case tap => simp [decodeTap, hc, hrx]
  case payload => exact decodeByte_of_encode nofun (by simpa [rowSelected, hc, hrx] using hb) rfl
  all_goals exact decodeByte_of_encode nofun (by simp [rowSelected, *]) rfl

/-- Settles O6: each word is decoded. -/
theorem writtenWordsDecode : Obligations.WrittenWordsDecode :=
  ⟨rfl, rfl, rfl, rfl, rfl, rfl, decodeTransmission_of_encode (i := .txFrame [0x67] false) rfl rfl, rfl⟩

/-- The words R78 assigns, by their fields: `op` in bits 3:0, the flag in bit 4, bits 7:5 zero (R77). -/
theorem isAssignedCommand_eq_false_iff : ∀ w : Byte, isAssignedCommand w = false ↔
    w.toNat % 16 = 0 ∨ 8 ≤ w.toNat % 16 ∨ 32 ≤ w.toNat ∨
      (w.getLsbD 4 = true ∧ w.toNat % 16 ≠ 1 ∧ w.toNat % 16 ≠ 3) := by decide

/-- Settles O42: the decoder reads as reserved the words that R78 assigns to no command, and no state takes one. -/
theorem reservedCommandWordsAreRefused : Obligations.ReservedCommandWordsAreRefused :=
  fun w payload => ⟨(decodeCommand_eq_cmdReserved_iff w payload).trans (isAssignedCommand_eq_false_iff w), fun _ => rfl⟩

/-! ### The whole table -/

/-- A byte that is read as a row is accepted, so the tap sees every accepted 0x03 of a healthy connection (R90, R170). -/
theorem decodeTap_of_decodeByte {c : RxContext} {b : Byte} {i : Instr} (h : decodeByte c b = .ok i) :
    decodeTap c b = if b = chBreak ∧ c.broken = false then [.rxbBreakTap] else [] := by
  have haccept : c.broken = false → c.rxState ≠ .validate := by
    intro hb hrx
    simp [decodeByte, hb, hrx] at h
  unfold decodeTap
  exact if_congr (by tauto) rfl rfl

/-- A byte that is seen by the tap is accepted, so it is read as a row of its own. -/
theorem exists_decodeByte_of_tap {c : RxContext} (hsel : rowSelected c .rxbBreakTap = true) (b : Byte) :
    ∃ j, decodeByte c b = .ok j := by
  cases h : decodeByte c b with
  | ok j => exact ⟨j, rfl⟩
  | error e =>
    unfold decodeByte at h
    repeat' split at h
    all_goals simp_all [rowSelected]

/-- Decode after encode for every row but the tap's own, unit by unit. -/
theorem decode_of_encode {c : RxContext} {i : Instr} {input : Input} (hwf : i.wellFormed = true)
    (hsel : rowSelected c i = true) (htap : i ≠ .rxbBreakTap) (h : encode i = input) :
    decode c input = .ok (if input = .rxByte 0x03 ∧ c.broken = false then [.rxbBreakTap, i] else [i]) := by
  cases input with
  | rxByte b =>
    have hb := decodeByte_of_encode htap hsel h
    simp only [decode, hb, decodeTap_of_decodeByte hb, Input.rxByte.injEq]
    split <;> rfl
  | command => simp [decode, decodeCommand_of_encode hwf h]
  | strobe => simp [decode, decodeStrobe_of_encode h]
  | wireForm => simp [decode, decodeWireForm_of_encode hwf h]
  | checksumChar => simp [decode, decodeChecksumChar_of_encode hwf h]
  | transmit => simp [decode, decodeTransmission_of_encode hwf h]
  | response => simp [decode, decodeResponse_of_encode h]

/-- Settles O4: the tap's row stands in front of the row its byte is read as, and every other row comes back by
`decode_of_encode`. -/
theorem encodedRowsDecodeBack : Obligations.EncodedRowsDecodeBack := by
  intro c i hwf hsel
  refine ⟨?tap, fun htap => decode_of_encode hwf hsel htap rfl⟩
  rintro rfl
  obtain ⟨j, hj⟩ := exists_decodeByte_of_tap hsel chBreak
  have hb : c.broken = false := by simp_all [rowSelected]
  have hrows : decodeTap c chBreak = [.rxbBreakTap] := by rw [decodeTap_of_decodeByte hj, if_pos ⟨rfl, hb⟩]
  exact ⟨j, hj, by simp only [decode, encode, hj, hrows]; rfl⟩

/-- What ties a row to the input it was read from in a receive context. -/
def ReadFrom (c : RxContext) (input : Input) (i : Instr) : Prop :=
  i.wellFormed = true ∧ rowSelected c i = true ∧ inputBits (encode i) = inputBits input ∧
    isEventRow i = isEventInput input

/-- A row of a unit other than the receive framer needs no receive state. -/
theorem readFrom_of_encode (c : RxContext) {input own : Input} {i : Instr} (h : encode i = own)
    (hwf : i.wellFormed = true) (hne : ∀ b, own ≠ .rxByte b) (hbits : inputBits own = inputBits input)
    (hev : isEventInput own = isEventInput input) : ReadFrom c input i :=
  ⟨hwf, rowSelected_of_encode_ne_rxByte c (by rwa [h]), by rw [h, hbits], by rw [isEventRow, h, hev]⟩

/-- The tap's row has the bits of the byte it is applied to. -/
theorem readFrom_tap {c : RxContext} {b : Byte} (h : c.broken = false ∧ c.rxState ≠ .validate ∧ b = chBreak) :
    ReadFrom c (.rxByte b) .rxbBreakTap := by
  obtain ⟨hb, hrx, rfl⟩ := h
  exact ⟨rfl, by simp [rowSelected, hb, hrx], rfl, rfl⟩

/-- An input stands for one row of its own, and for the tap's row in front of it where the tap applies (entry 17). -/
theorem rows_of_decode {c : RxContext} {input : Input} {rows : List Instr} (h : decode c input = .ok rows) :
    ∃ i, ReadFrom c input i ∧ (rows = [i] ∨ rows = [.rxbBreakTap, i] ∧ ReadFrom c input .rxbBreakTap) := by
  cases input with
  | rxByte b =>
    cases hd : decodeByte c b with
    | error e => simp [decode, hd] at h
    | ok i =>
      obtain rfl : decodeTap c b ++ [i] = rows := by simpa [decode, hd] using h
      obtain ⟨he, hwf, hsel⟩ := encode_of_decodeByte hd
      refine ⟨i, ⟨hwf, hsel, by rw [he], by rw [isEventRow, he]⟩, ?_⟩
      rw [decodeTap]
      split
      case isTrue htap => exact .inr ⟨rfl, readFrom_tap htap⟩
      case isFalse => exact .inl rfl
  | command w payload =>
    obtain ⟨⟨p, he⟩, hwf⟩ := encode_decodeCommand w payload
    cases h
    exact ⟨_, readFrom_of_encode c he hwf nofun rfl rfl, .inl rfl⟩
  | strobe line =>
    obtain ⟨he, hwf⟩ := encode_decodeStrobe line
    cases h
    exact ⟨_, readFrom_of_encode c he hwf nofun rfl rfl, .inl rfl⟩
  | wireForm bytes =>
    cases hd : decodeWireForm bytes with
    | error e => simp [decode, hd] at h
    | ok i =>
      obtain rfl : [i] = rows := by simpa [decode, hd] using h
      obtain ⟨he, hwf⟩ := encode_of_decodeWireForm hd
      exact ⟨i, readFrom_of_encode c he hwf nofun rfl rfl, .inl rfl⟩
  | checksumChar b =>
    obtain ⟨he, hwf⟩ := encode_decodeChecksumChar b
    cases h
    exact ⟨_, readFrom_of_encode c he hwf nofun rfl rfl, .inl rfl⟩
  | transmit bytes =>
    cases hd : decodeTransmission bytes with
    | error e => simp [decode, hd] at h
    | ok i =>
      obtain rfl : [i] = rows := by simpa [decode, hd] using h
      obtain ⟨he, hwf⟩ := encode_of_decodeTransmission hd
      exact ⟨i, readFrom_of_encode c he hwf nofun rfl rfl, .inl rfl⟩
  | response w payload =>
    cases hd : decodeResponse w payload with
    | error e => simp [decode, hd] at h
    | ok i =>
      obtain rfl : [i] = rows := by simpa [decode, hd] using h
      obtain ⟨⟨p, he⟩, hwf⟩ := encode_of_decodeResponse hd
      exact ⟨i, readFrom_of_encode c he hwf nofun rfl rfl, .inl rfl⟩

/-- Settles O5: `rows_of_decode`, each of its one or two rows read from the input. -/
theorem decodedRowsAreSelected : Obligations.DecodedRowsAreSelected := by
  intro c input rows h
  obtain ⟨i, hi, rfl | ⟨rfl, htap⟩⟩ := rows_of_decode h
  · exact ⟨List.cons_ne_nil _ _, fun j hj => List.mem_singleton.mp hj ▸ hi⟩
  · refine ⟨List.cons_ne_nil _ _, fun j hj => ?_⟩
    obtain rfl | hj := List.mem_cons.mp hj
    · exact htap
    · exact List.mem_singleton.mp hj ▸ hi

/-! ### The step -/

/-- A host command is refused for one reason alone (R34). -/
theorem onCommand_ne_rowNotSelected (s : State) (effect : State → State) :
    onCommand s effect ≠ .refused .rowNotSelected := by
  unfold onCommand
  split <;> simp

/-- A row that the receive state selects is not refused as one that it does not (entry 13). -/
theorem exec_ne_rowNotSelected {i : Instr} {s : State} (h : rowSelected (rxContext s) i = true) :
    exec i s ≠ .refused .rowNotSelected := by
  cases i with
  | rxbBreakTap | rxbStartPacket | rxbStartNotification | rxbAckPlus | rxbAckMinus | rxbDiscard | rxbEndPayload
  | rxbPayloadByte | rxbChecksumHi | rxbChecksumLo | rxbFatalDiscard =>
    exact fun hr => by cases (onRow_eq_next.mpr ⟨h, rfl⟩).symm.trans hr
  | available => unfold exec execAvailable; exact onCommand_ne_rowNotSelected s _
  | rcv => unfold exec execRcv; exact onCommand_ne_rowNotSelected s _
  | pendingBreak => unfold exec execPendingBreak; exact onCommand_ne_rowNotSelected s _
  | clearBreak => unfold exec execClearBreak; exact onCommand_ne_rowNotSelected s _
  | isReliable => unfold exec execIsReliable; exact onCommand_ne_rowNotSelected s _
  | setNoack => unfold exec execSetNoack; exact onCommand_ne_rowNotSelected s _
  | snd payload notif =>
    show execSnd payload notif s ≠ _
    unfold execSnd
    split
    · exact onCommand_ne_rowNotSelected s _
    · nofun
  | ackTimeout =>
    show execAckTimeout s ≠ _
    unfold execAckTimeout
    split <;> nofun
  | _ => nofun

/-- The tap's row leaves the receive state, so the row behind it stays selected (R170). -/
theorem exec_breakTap {s : State} (h : rowSelected (rxContext s) .rxbBreakTap = true) :
    exec .rxbBreakTap s = .next { s with brk := true } :=
  onRow_eq_next.mpr ⟨h, rfl⟩

/-- Settles O7: the rows of an input are selected where it is taken (`rows_of_decode`), and still are behind the tap. -/
theorem stepRunsSelectedRowsOnly : Obligations.StepRunsSelectedRowsOnly := by
  intro s
  cases hin : s.inputs with
  | nil => rw [step_nil hin]; nofun
  | cons input rest =>
    cases hd : decode (rxContext s) input with
    | error e => rw [step_cons hin, hd]; cases e <;> nofun
    | ok rows =>
      rw [step_of_decode_ok hin hd]
      obtain ⟨i, ⟨-, hsel, -⟩, rfl | ⟨rfl, -, htap, -⟩⟩ := rows_of_decode hd
      · rw [runRows_one]
        exact exec_ne_rowNotSelected hsel
      · rw [runRows_cons_of_next (exec_breakTap (s := taken rest s) htap), runRows_one]
        exact exec_ne_rowNotSelected hsel

end Sys2Proof.Machine
end

section
/-! The rows of a wire payload and of the checksum characters on the working values (R72 to R75; entry 4): run one at a
time they compute what the decoding functions compute. -/

namespace Sys2Proof.Machine

/-! ### One row -/

theorem pushToken_lit (v : Byte) (w : Work) :
    pushToken (.lit v) w =
      { w with tokens := w.tokens ++ [.lit v], sum := w.sum + v, out := w.out.map (· ++ [v]) } := by
  have hsum : BitVec.ofNat 8 (w.sum.toNat + v.toNat) = w.sum + v := by simp [BitVec.ofNat_add]
  cases hout : w.out <;> simp [pushToken, tokenValue, expandToken, hsum, hout]

theorem pushToken_rep (c : Byte) (w : Work) :
    pushToken (.rep c) w =
      { w with
        tokens := w.tokens ++ [.rep c]
        sum := w.sum + 0x2a + c
        out := w.out.bind fun out => match out.getLast? with
          | none => none
          | some l => if c.toNat < 29 then none else some (out ++ List.replicate (c.toNat - 29) l) } := by
  have hsum : BitVec.ofNat 8 (w.sum.toNat + (chStar.toNat + c.toNat)) = w.sum + 0x2a + c := by
    simp [BitVec.ofNat_add, BitVec.add_assoc]
  simp only [pushToken, tokenValue, hsum]
  cases w.out <;> rfl

/-- A digit moves the checksum up by one hexadecimal place (R75, R83). -/
theorem checksumDigit_eq (c : Byte) (d : BitVec 4) : checksumDigit c d = 16 * c + d.setWidth 8 := by
  apply BitVec.eq_of_toNat_eq
  simp [checksumDigit]

theorem pushChecksumChar_digit {d : BitVec 4} {v : Byte} (hv : d.setWidth 8 = v) (w : Work) :
    pushChecksumChar (some d) w = { w with carried := w.carried.map fun c => 16 * c + v } := by
  cases hc : w.carried <;> simp [pushChecksumChar, checksumDigit_eq, hc, hv]

theorem pushChecksumChar_none (w : Work) : pushChecksumChar none w = { w with carried := none } := by
  cases hc : w.carried <;> simp [pushChecksumChar, hc]

/-- The value of a digit class, as a byte: the class's base and the free low bits of its character. -/
theorem digitClass_setWidth :
    (∀ n : BitVec 3, (BitVec.ofNat 4 n.toNat).setWidth 8 = n.setWidth 8) ∧
    (∀ n : BitVec 1, (BitVec.ofNat 4 (8 + n.toNat)).setWidth 8 = 8 + n.setWidth 8) ∧
    (∀ n : BitVec 1, (BitVec.ofNat 4 (11 + n.toNat)).setWidth 8 = 11 + n.setWidth 8) ∧
    (∀ n : BitVec 1, (BitVec.ofNat 4 (13 + n.toNat)).setWidth 8 = 13 + n.setWidth 8) := by decide

theorem next_work_congr (s : State) {w w' : Work} (h : w = w') :
    (Host.Outcome.next { s with work := w } : Host.Outcome State Fault Refusal) = .next { s with work := w' } := by
  rw [h]

/-- Settles O20: each row pushes its token or its digit. -/
theorem decodingRowsActOnWork : Obligations.DecodingRowsActOnWork := by
  intro s
  obtain ⟨h07, h89, hbc, hde⟩ := digitClass_setWidth
  exact ⟨fun e => next_work_congr s (pushToken_lit _ _), fun b => next_work_congr s (pushToken_lit b _),
    fun c => next_work_congr s (pushToken_rep c _), fun n => next_work_congr s (pushChecksumChar_digit (h07 n) _),
    fun n => next_work_congr s (pushChecksumChar_digit (h89 n) _),
    next_work_congr s (pushChecksumChar_digit rfl _),
    fun n => next_work_congr s (pushChecksumChar_digit (hbc n) _),
    fun n => next_work_congr s (pushChecksumChar_digit (hde n) _),
    next_work_congr s (pushChecksumChar_digit rfl _), fun _ => next_work_congr s (pushChecksumChar_none _)⟩

/-! ### A wire payload -/

/-- Which token a form of a wire payload is read as (R72). -/
inductive ReadsToken : Instr → Token → Prop
  | escapePair (e : Byte) : ReadsToken (.wpEscapePair e) (escapeToken e)
  | runlengthPair (c : Byte) : ReadsToken (.wpRunlengthPair c) (.rep c)
  | literal (b : Byte) : ReadsToken (.wpLiteral b) (.lit b)

theorem exec_of_readsToken {i : Instr} {t : Token} (h : ReadsToken i t) (s : State) :
    exec i s = .next { s with work := pushToken t s.work } := by
  cases h <;> rfl

/-- Reading one form more on both sides. -/
theorem optionRel_map_cons {i : Instr} {t : Token} (h : ReadsToken i t) {rows : Option (List Instr)}
    {tokens : Option (List Token)} (hrest : Option.Rel (List.Forall₂ ReadsToken) rows tokens) :
    Option.Rel (List.Forall₂ ReadsToken) (rows.map (i :: ·)) (tokens.map (t :: ·)) := by
  cases hrest with
  | none => exact .none
  | some hrest => exact .some (.cons h hrest)

/-- The cut into rows and `Tokenize` fail together, and otherwise go form by form (R72). -/
theorem decodeWirePayload_rel_tokenize (wire : Bytes) :
    Option.Rel (List.Forall₂ ReadsToken) (decodeWirePayload wire) (tokenize wire) := by
  induction wire using tokenize.induct with
  | case1 => exact .some .nil
  | case2 b hb => rw [decodeWirePayload, tokenize, if_pos hb, if_pos hb]; exact .none
  | case3 b hb => rw [decodeWirePayload, tokenize, if_neg hb, if_neg hb]; exact .some (.cons (.literal b) .nil)
  | case4 c rest ih =>
    rw [decodeWirePayload_escape, tokenize_escape]
    exact optionRel_map_cons (.escapePair c) ih
  | case5 c rest _ ih =>
    rw [decodeWirePayload_star, tokenize_star]
    exact optionRel_map_cons (.runlengthPair c) ih
  | case6 b c rest h1 h2 ih =>
    rw [decodeWirePayload_plain h1 h2, tokenize_plain h1 h2]
    exact optionRel_map_cons (.literal b) ih

/-- The working values after a list of tokens, by the three functions of R72 to R74. -/
def pushTokens (tokens : List Token) (w : Work) : Work :=
  { w with
    tokens := w.tokens ++ tokens, sum := w.sum + tokSum tokens, out := w.out.bind (expandFrom · tokens) }

theorem pushTokens_nil (w : Work) : pushTokens [] w = w := by
  simp [pushTokens, expandFrom]

/-- The three functions go token by token, as `pushToken` does. -/
theorem pushTokens_cons (t : Token) (tokens : List Token) (w : Work) :
    pushTokens (t :: tokens) w = pushTokens tokens (pushToken t w) := by
  have hsum : w.sum + tokSum (t :: tokens) = BitVec.ofNat 8 (w.sum.toNat + tokenValue t) + tokSum tokens := by
    rw [tokSum_cons, BitVec.ofNat_add, BitVec.ofNat_toNat, BitVec.setWidth_eq, BitVec.add_assoc]
  have hout : w.out.bind (expandFrom · (t :: tokens)) = (w.out.bind (expandToken · t)).bind (expandFrom · tokens) := by
    cases w.out with
    | none => rfl
    | some out => simp only [Option.bind_some, expandFrom]; cases expandToken out t <;> rfl
  simp only [pushTokens, hsum, hout, pushToken, List.append_assoc, List.singleton_append]
  cases w.out <;> rfl

theorem runRows_of_readsToken {rows : List Instr} {tokens : List Token} (h : List.Forall₂ ReadsToken rows tokens)
    (s : State) : runRows rows s = .next { s with work := pushTokens tokens s.work } := by
  induction h generalizing s with
  | nil => rw [pushTokens_nil]; rfl
  | cons hi _ ih => rw [runRows_cons_of_next (exec_of_readsToken hi s), ih, pushTokens_cons]

/-! ### The checksum characters -/

/-- A row of the checksum reader pushes the value of the character it is encoded as. -/
theorem exec_of_encode_checksumChar {i : Instr} {b : Byte} (hwf : i.wellFormed = true)
    (h : encode i = .checksumChar b) (s : State) :
    exec i s = .next { s with work := pushChecksumChar (hexVal b) s.work } := by
  cases i with
  | ckDigit0to7 | ckDigit8to9 | ckLetterA | ckLetterBC | ckLetterDE | ckLetterF =>
    cases h
    rw [checksumChar, hexVal_hexChar]
    rfl
  | ckInvalid b =>
    cases h
    have hb : hexVal b = none := by simpa [Instr.wellFormed] using hwf
    rw [hb]
    rfl
  | _ => cases h

theorem exec_decodeChecksumChar (b : Byte) (s : State) :
    exec (decodeChecksumChar b) s = .next { s with work := pushChecksumChar (hexVal b) s.work } := by
  obtain ⟨he, hwf⟩ := encode_decodeChecksumChar b
  exact exec_of_encode_checksumChar hwf he s

/-- Two characters, pushed one after the other, assemble what they carry together (R75). -/
theorem carried_pushChecksumChars (hi lo : Byte) :
    (pushChecksumChar (hexVal lo) (pushChecksumChar (hexVal hi) Work.fresh)).carried = carriedChecksum hi lo := by
  unfold carriedChecksum
  cases hexVal hi <;> cases hexVal lo <;> rfl

/-- Settles O19: the rows of a wire payload read `Tokenize`'s tokens (`decodeWirePayload_rel_tokenize`) and push them
(`runRows_of_readsToken`), and a checksum character's row pushes its value. -/
theorem wireRowsRefineTheDecoder : Obligations.WireRowsRefineTheDecoder := by
  intro s
  refine ⟨fun wire => ?invalid, fun wire rows h => ?valid, fun hi lo => ?checksum⟩
  case invalid =>
    have hrel := decodeWirePayload_rel_tokenize wire
    generalize decodeWirePayload wire = rows, tokenize wire = tokens at hrel ⊢
    cases hrel <;> simp
  case valid =>
    have hrel := decodeWirePayload_rel_tokenize wire
    rw [h] at hrel
    generalize htokens : tokenize wire = tokens at hrel ⊢
    cases hrel with
    | some hread =>
      exact ⟨_, _, runRows_of_readsToken hread _, rfl, rfl, BitVec.zero_add _, rfl⟩
  case checksum =>
    refine ⟨_, ?_, carried_pushChecksumChars hi lo⟩
    rw [runRows_cons_of_next (exec_decodeChecksumChar hi _), runRows_one, exec_decodeChecksumChar]

end Sys2Proof.Machine
end

section
/-! Reception as a sequence of steps (R41, R99): no row sees the inputs still to come, so a run over them may be cut
anywhere. -/

namespace Sys2Proof.Machine

/-! ### The inputs still to come -/

/-- A state with other inputs still to come: the view under which two cuts of one delivery are compared (entry 1). -/
def withInputs (rest : List Input) (s : State) : State := { s with inputs := rest }

section
variable (rest : List Input)

theorem onRow_withInputs {i : Instr} {s t t' : State} (h : t' = withInputs rest t) :
    onRow i (withInputs rest s) t' = viewed (withInputs rest) (onRow i s t) := by
  rw [h, onRow, onRow, show rxContext (withInputs rest s) = rxContext s from rfl,
    show rxReady (withInputs rest s) = rxReady s from rfl]
  cases rowSelected (rxContext s) i <;> cases rxReady s <;> rfl

theorem onCommand_withInputs {effect : State → State} (s : State)
    (h : ∀ u, effect (withInputs rest u) = withInputs rest (effect u)) :
    onCommand (withInputs rest s) effect = viewed (withInputs rest) (onCommand s effect) := by
  by_cases hs : s.hostState = .idle
  · rw [onCommand, onCommand, if_pos hs, if_pos (by exact hs)]
    exact congrArg _ (h { s with resp := none })
  · rw [onCommand, onCommand, if_neg hs, if_neg (by exact hs)]
    rfl

theorem emit_withInputs (bytes : Bytes) (s : State) :
    emit bytes (withInputs rest s) = withInputs rest (emit bytes s) := by
  rw [emit_eq, emit_eq]
  rfl

theorem emitAck_withInputs (b : Byte) (s : State) :
    emitAck b (withInputs rest s) = withInputs rest (emitAck b s) := by
  rw [emitAck_eq, emitAck_eq]
  rfl

theorem tryValidate_withInputs (s : State) :
    tryValidate (withInputs rest s) = withInputs rest (tryValidate s) := by
  have hv : validPayload (withInputs rest s) = validPayload s := rfl
  rcases tryValidate_cases s with ⟨hn, e⟩ | ⟨h1, h2, payload, h3, e⟩ | ⟨h1, h2, h3, e⟩ <;> rw [e]
  case inl =>
    obtain ⟨-, e'⟩ | ⟨h1, h2, -⟩ | ⟨h1, h2, -⟩ := tryValidate_cases (withInputs rest s)
    · exact e'
    · exact absurd ⟨h1, h2⟩ hn
    · exact absurd ⟨h1, h2⟩ hn
  case inr.inl => exact tryValidate_valid (s := withInputs rest s) h1 h2 (hv.trans h3)
  case inr.inr => exact tryValidate_invalid (s := withInputs rest s) h1 h2 (hv.trans h3)

theorem negativeEvent_withInputs (s : State) :
    negativeEvent (withInputs rest s) = withInputs rest (negativeEvent s) := by
  rcases negativeEvent_cases s with ⟨h, e⟩ | ⟨h, e⟩ <;>
    rcases negativeEvent_cases (withInputs rest s) with ⟨h', e'⟩ | ⟨h', e'⟩ <;> rw [e, e']
  case inl.inr => exact absurd h (Nat.not_lt.mpr h')
  case inr.inl => exact absurd h' (Nat.not_lt.mpr h)
  all_goals rfl

/-! ### One row -/

theorem execAvailable_withInputs (block : Bool) (s : State) :
    execAvailable block (withInputs rest s) = viewed (withInputs rest) (execAvailable block s) := by
  refine onCommand_withInputs rest s fun u => ?_
  rw [show (withInputs rest u).pktValid = u.pktValid from rfl, show broken (withInputs rest u) = broken u from rfl,
    apply_ite (withInputs rest), apply_ite (withInputs rest)]
  rfl

theorem execRcv_withInputs (s : State) :
    execRcv (withInputs rest s) = viewed (withInputs rest) (execRcv s) := by
  refine onCommand_withInputs rest s fun u => ?_
  rw [apply_ite (withInputs rest), ← tryValidate_withInputs]
  rfl

theorem execSnd_withInputs (payload : Bytes) (notif : Bool) (s : State) :
    execSnd payload notif (withInputs rest s) = viewed (withInputs rest) (execSnd payload notif s) := by
  by_cases hc : capAdmits s.params.maxPayload payload.length = true
  · rw [execSnd, execSnd, if_pos hc, if_pos (by exact hc)]
    refine onCommand_withInputs rest s fun u => ?_
    rw [emit_withInputs, apply_ite (withInputs rest), apply_ite (withInputs rest)]
    rfl
  · rw [execSnd, execSnd, if_neg hc, if_neg (by exact hc)]
    rfl

theorem execAckTimeout_withInputs (s : State) :
    execAckTimeout (withInputs rest s) = viewed (withInputs rest) (execAckTimeout s) := by
  rw [execAckTimeout, execAckTimeout, negativeEvent_withInputs, apply_ite (viewed (withInputs rest))]
  rfl

theorem execLinkfail_withInputs (s : State) :
    execLinkfail (withInputs rest s) = viewed (withInputs rest) (execLinkfail s) := by
  have he : raiseError .transportFailure (withInputs rest s) = withInputs rest (raiseError .transportFailure s) := by
    simp only [raiseError, setFatal]
    rw [apply_ite (withInputs rest)]
    rfl
  have hfail : (if broken (withInputs rest s) then withInputs rest s
      else raiseError .transportFailure (withInputs rest s)) =
      withInputs rest (if broken s then s else raiseError .transportFailure s) := by
    rw [he, apply_ite (withInputs rest)]
    rfl
  refine congrArg Host.Outcome.next ?_
  rw [apply_ite (withInputs rest)]
  exact if_congr Iff.rfl hfail
    (congrArg (fun u : State => respond (.bool false) { u with pend := none, retryCnt := 0 }) hfail)

/-- No row reads or writes the inputs still to come (entry 1). -/
theorem exec_withInputs (i : Instr) (s : State) :
    exec i (withInputs rest s) = viewed (withInputs rest) (exec i s) := by
  cases i with
  | rxbAckMinus => exact onRow_withInputs rest (negativeEvent_withInputs rest s)
  | rxbPayloadByte b => exact onRow_withInputs rest (by rw [apply_ite (withInputs rest)]; rfl)
  | rxbChecksumLo b =>
    exact onRow_withInputs rest (tryValidate_withInputs rest { s with ckLo := b, ckCnt := false, rxState := .validate })
  | rxbBreakTap | rxbStartPacket | rxbStartNotification | rxbAckPlus | rxbDiscard | rxbEndPayload
  | rxbChecksumHi | rxbFatalDiscard => exact onRow_withInputs rest rfl
  | available block => exact execAvailable_withInputs rest block s
  | rcv => exact execRcv_withInputs rest s
  | snd payload notif => exact execSnd_withInputs rest payload notif s
  | pendingBreak | clearBreak | isReliable | setNoack =>
    unfold exec
    exact onCommand_withInputs rest s fun _ => rfl
  | ackTimeout => exact execAckTimeout_withInputs rest s
  | linkfail => exact execLinkfail_withInputs rest s
  | txAckPlus => exact congrArg _ (emitAck_withInputs rest chPlus s)
  | txAckMinus => exact congrArg _ (emitAck_withInputs rest chMinus s)
  | txFrame payload notif => exact congrArg _ (emit_withInputs rest (frame payload notif) s)
  | txEscapedByte b => exact congrArg _ (emit_withInputs rest (escapePair b) s)
  | _ => rfl

theorem runRows_withInputs (rows : List Instr) (s : State) :
    runRows rows (withInputs rest s) = viewed (withInputs rest) (runRows rows s) := by
  induction rows generalizing s with
  | nil => rfl
  | cons i rows ih =>
    rw [runRows_cons, runRows_cons, exec_withInputs]
    cases exec i s with
    | next u => exact ih u
    | fault | refused => rfl

/-- A step takes one input, and leaves the others as they are (R8). -/
theorem step_withInputs (input : Input) (s : State) :
    step (withInputs (input :: rest) s) = viewed (withInputs rest) (step (withInputs [input] s)) := by
  rw [step_cons (s := withInputs (input :: rest) s) rfl, step_cons (s := withInputs [input] s) rfl,
    show rxContext (withInputs (input :: rest) s) = rxContext s from rfl,
    show rxContext (withInputs [input] s) = rxContext s from rfl]
  cases decode (rxContext s) input with
  | error => rfl
  | ok rows => exact runRows_withInputs rest rows (taken [] s)

end

/-- A sequence of inputs may be presented in two parts (R41, R99). -/
theorem run_append (a b : List Input) (s : State) :
    run (a.length + b.length) (withInputs (a ++ b) s) =
      match run a.length (withInputs a s) with
      | .next t => run b.length (withInputs b t)
      | .fault f => .fault f
      | .refused r => .refused r := by
  induction a generalizing s with
  | nil =>
    rw [List.length_nil, Nat.zero_add]
    rfl
  | cons input a ih =>
    rw [List.length_cons, Nat.succ_add, List.cons_append, run, run, step_withInputs, step_withInputs a]
    cases step (withInputs [input] s) with
    | next u => exact ih u
    | fault | refused => rfl

/-- Settles O22: `run_append`, of received bytes. -/
theorem receptionIgnoresCuts : Obligations.ReceptionIgnoresCuts := by
  intro s a b
  rw [List.map_append, ← List.length_map (as := a) Input.rxByte, ← List.length_map (as := b) Input.rxByte]
  exact run_append (a.map .rxByte) (b.map .rxByte) s

end Sys2Proof.Machine
end

section
/-! The receive framer (R90 to R98, R110 to R117, R122, R123): a received byte in one step, the framer's rows on a healthy
connection, and every transition of `rx_state`. -/

namespace Sys2Proof.Machine

/-! ### A received byte (R90, R170) -/

/-- R90, R170: the rows of a byte that is accepted, the tap's before the byte's own. -/
theorem decode_rxByte {c : RxContext} {b : Byte} {i : Instr} (hi : decodeByte c b = .ok i) :
    decode c (.rxByte b) = .ok (if b = chBreak ∧ c.broken = false then [.rxbBreakTap, i] else [i]) := by
  simp only [decode, hi, decodeTap_of_decodeByte hi]
  split <;> rfl

/-- Settles O3: a broken connection discards the byte, a held framer has no row for it, and otherwise its own row runs
behind the tap's if it is 0x03, and alone if it is not. -/
theorem receivedBytePassesTheTap : Obligations.ReceivedBytePassesTheTap := by
  intro s b rest hin
  refine ⟨fun hf => ?broken, fun hf hrx => ?held, fun hf hrx => ?accepted⟩
  case broken =>
    have hb : (rxContext s).broken = true := (broken_eq_true s).mpr hf
    have hd := decode_rxByte (if_pos hb : decodeByte (rxContext s) b = .ok (.rxbFatalDiscard b))
    rw [if_neg (by simp [hb])] at hd
    rw [step_of_decode_ok hin hd, runRows_one]
    exact onRow_eq_next.mpr ⟨(rowSelected_fatalDiscard (taken rest s) b).mpr hf, rfl⟩
  case held =>
    have hi : decodeByte (rxContext s) b = .error .rxNotReady := by simp [decodeByte, rxContext, broken, hf, hrx]
    rw [step_cons hin]
    simp only [decode, hi, rejectInput]
  case accepted =>
    have htap := (rowSelected_breakTap s).mpr ⟨hf, hrx⟩
    obtain ⟨i, hi⟩ := exists_decodeByte_of_tap htap b
    refine ⟨i, hi, ?_⟩
    rw [step_of_decode_ok hin (decode_rxByte hi)]
    by_cases hb : b = chBreak
    · rw [if_pos ⟨hb, (broken_eq_false s).mpr hf⟩, runRows_cons_of_next (exec_breakTap (s := taken rest s) htap),
        runRows_one, show (b == 0x03) = true from beq_iff_eq.mpr hb, Bool.or_true]
      rfl
    · rw [if_neg fun h => hb h.1, runRows_one, show (b == 0x03) = false from beq_eq_false_iff_ne.mpr hb, Bool.or_false]
      rfl

/-! ### The scan for a start marker (R91, R92, R93) -/

/-- Settles O10: 0x24 is the byte of `RXB.START_PACKET`, which is selected in `SCAN_FOR_START`. -/
theorem dollarOpensAPacket : Obligations.DollarOpensAPacket := by
  intro s hf hrx
  have hsel := (rowSelected_startPacket s).mpr ⟨hf, hrx⟩
  exact ⟨decode_of_encode rfl hsel nofun rfl, onRow_eq_next.mpr ⟨hsel, rfl⟩⟩

/-- Settles O11: 0x25 is the byte of `RXB.START_NOTIFICATION`, which is selected in `SCAN_FOR_START`. -/
theorem percentOpensANotification : Obligations.PercentOpensANotification := by
  intro s hf hrx
  have hsel := (rowSelected_startNotification s).mpr ⟨hf, hrx⟩
  exact ⟨decode_of_encode rfl hsel nofun rfl, onRow_eq_next.mpr ⟨hsel, rfl⟩⟩

/-- Settles O13: R93's exclusions are what `RXB.DISCARD` asks of its byte, to be well formed and to be selected. -/
theorem discardedBytesChangeNothing : Obligations.DiscardedBytesChangeNothing := by
  intro s b hf hrx hdollar hpercent hack
  have hsel := (rowSelected_discard s b).mpr ⟨⟨⟨⟨hf, hrx⟩, hdollar⟩, hpercent⟩, hack⟩
  have hwf : (Instr.rxbDiscard b).wellFormed = true := by simpa [Instr.wellFormed] using ⟨hdollar, hpercent⟩
  refine ⟨(decode_of_encode hwf hsel nofun rfl).trans ?_, onRow_eq_next.mpr ⟨hsel, rfl⟩⟩
  have hb : (rxContext s).broken = false := (broken_eq_false s).mpr hf
  simp only [encode, hb, Input.rxByte.injEq, and_true]

/-! ### The bytes of a frame (R94, R95, R96) -/

/-- Settles O14: each row is selected where its byte is read, and its effect is written out. -/
theorem frameBytesAreStored : Obligations.FrameBytesAreStored := by
  intro s hf
  refine ⟨fun hrx => ⟨?hash, fun b hb => ⟨fun hroom => ?room, fun hroom => ?full⟩⟩, fun hrx hck b => ?checksum⟩
  case hash => exact onRow_eq_next.mpr ⟨(rowSelected_endPayload s).mpr ⟨hf, hrx⟩, rfl⟩
  case room => exact onRow_eq_next.mpr ⟨(rowSelected_payloadByte s b).mpr ⟨⟨hf, hrx⟩, hb⟩, by rw [if_pos hroom]⟩
  case full => exact onRow_eq_next.mpr ⟨(rowSelected_payloadByte s b).mpr ⟨⟨hf, hrx⟩, hb⟩, by simp [hroom]⟩
  case checksum => exact onRow_eq_next.mpr ⟨(rowSelected_checksumHi s b).mpr ⟨⟨hf, hrx⟩, hck⟩, rfl⟩

/-! ### The last byte of a frame (R97, R110 to R117, R122, R123) -/

/-- The state in which a frame has ended with the checksum character `b`, before it is validated (R97). -/
def frameEnded (b : Byte) (s : State) : State := { s with ckLo := b, ckCnt := false, rxState := .validate }

/-- R97: the second checksum character ends the frame, which is validated in the same step or held. -/
theorem exec_checksumLo {s : State} (b : Byte) (hf : s.fatal = .none) (hrx : s.rxState = .readChecksum)
    (hck : s.ckCnt = true) : exec (.rxbChecksumLo b) s = .next (tryValidate (frameEnded b s)) :=
  onRow_eq_next.mpr ⟨(rowSelected_checksumLo s b).mpr ⟨⟨hf, hrx⟩, hck⟩, rfl⟩

/-- The verdict depends on the frame, not on where the framer stands. -/
theorem validPayload_frameEnded (b : Byte) (s : State) :
    validPayload (frameEnded b s) = validPayload { s with ckLo := b } :=
  validPayload_congr rfl rfl rfl rfl rfl

/-- R111: nothing is judged while the slot is full. -/
theorem tryValidate_fullSlot {s : State} (hfull : s.pktValid = true) : tryValidate s = s := by
  rw [tryValidate, if_pos hfull, ite_self]

/-- The acknowledgment of a frame on a healthy connection (R114, R115). -/
theorem ack_of_healthy {s : State} (hf : s.fatal = .none) (b : Byte) :
    (if ackDue s && !broken s then [b] else []) = if s.rxNotif = false ∧ s.noack = false then [b] else [] := by
  simp [ackDue, (broken_eq_false s).mpr hf]

/-- Settles O15: the validation of the ended frame stops at the full slot. -/
theorem fullSlotHoldsTheFrame : Obligations.FullSlotHoldsTheFrame := by
  intro s b hf hrx hck hfull
  refine ⟨frameEnded b s, ?_, rfl, (rxReady_eq_false _).mpr ⟨hf, rfl⟩⟩
  rw [exec_checksumLo b hf hrx hck, tryValidate_fullSlot (s := frameEnded b s) hfull]

/-- Settles O16, by `tryValidate_valid` of the ended frame. -/
theorem validFrameIsDelivered : Obligations.ValidFrameIsDelivered := by
  intro s b payload hf hrx hck hempty hvalid
  have hv := (validPayload_frameEnded b s).trans hvalid
  rw [exec_checksumLo b hf hrx hck, tryValidate_valid (s := frameEnded b s) rfl hempty hv, ← ack_of_healthy hf]
  rfl

/-- Settles O17, by `tryValidate_invalid` of the ended frame. -/
theorem invalidFrameIsRejected : Obligations.InvalidFrameIsRejected := by
  intro s b hf hrx hck hempty hinvalid
  have hv := (validPayload_frameEnded b s).trans hinvalid
  rw [exec_checksumLo b hf hrx hck, tryValidate_invalid (s := frameEnded b s) rfl hempty hv, ← ack_of_healthy hf]
  rfl

/-! ### The transitions of `rx_state` (R98) -/

/-- Where a row leaves the framer (R98). -/
def rxStateAfter (i : Instr) (s : State) : RxState :=
  match i with
  | .rxbStartPacket | .rxbStartNotification => .accumulatePayload
  | .rxbEndPayload => .readChecksum
  | .rxbChecksumLo _ => if s.pktValid = true then .validate else .scanForStart
  | .rcv => if s.rxState = .validate ∧ s.pktValid = true then .scanForStart else s.rxState
  | .reset => .scanForStart
  | _ => s.rxState

/-- A row at one of the block's own units is no event, and moves no framer (entry 3). -/
theorem rxStateAfter_of_not_event {i : Instr} (h : isEventRow i = false) (s : State) : rxStateAfter i s = s.rxState := by
  cases i with
  | rxbStartPacket | rxbStartNotification | rxbEndPayload | rxbChecksumLo | rcv | reset => cases h
  | _ => rfl

theorem effect_rxState {i : Instr} {s t : State} (h : Effect i s t) : t.rxState = rxStateAfter i s := by
  cases h with
  | retransmit hi | exhaust hi => obtain ⟨rfl, -⟩ | rfl := hi <;> rfl
  | frameHeld _ _ _ hfull => exact (if_pos hfull).symm
  | frameValid _ _ _ hempty | frameInvalid _ _ _ hempty => exact (if_neg (by simp [hempty])).symm
  | rcvEmpty _ hempty => exact (if_neg (by simp [hempty])).symm
  | rcvPacket _ _ hrx => exact (if_neg fun h => hrx h.1).symm
  | rcvHeldValid _ hfull hrx | rcvHeldInvalid _ hfull hrx => exact (if_pos ⟨hrx, hfull⟩).symm
  | wireForm hi | checksumChar hi | transmit hi | response hi =>
    exact (rxStateAfter_of_not_event (by rw [isEventRow, hi]; rfl) s).symm
  | transmitNotDue hi => obtain rfl | rfl := hi <;> rfl
  | _ => rfl

/-- Settles O21: `effect_rxState` of the row that ran. -/
theorem receiveStateTransitions : Obligations.ReceiveStateTransitions := by
  intro i s t h
  rw [effect_rxState (exec_effect h)]
  cases i <;> rfl

end Sys2Proof.Machine
end

section
/-! The validity predicate (R112): the digits of the carried checksum, and the six items in their order. -/

namespace Sys2Proof.Machine

/-! ### The carried checksum (R75) -/

/-- Two digits fill a byte exactly, so the checksum they assemble is the number they write, not only its residue. -/
theorem toNat_checksumDigits (h l : BitVec 4) :
    (checksumDigit (checksumDigit 0 h) l).toNat = 16 * h.toNat + l.toNat := by
  simp only [checksumDigit, BitVec.toNat_ofNat]
  omega

theorem carriedChecksum_eq_some_iff {hi lo v : Byte} :
    carriedChecksum hi lo = some v ↔
      ∃ h l, hexVal hi = some h ∧ hexVal lo = some l ∧ v.toNat = 16 * h.toNat + l.toNat := by
  have hsum (h l : BitVec 4) : checksumDigit (checksumDigit 0 h) l = v ↔ v.toNat = 16 * h.toNat + l.toNat := by
    rw [← BitVec.toNat_inj, toNat_checksumDigits, eq_comm]
  unfold carriedChecksum
  cases hexVal hi with
  | none => simp
  | some h =>
    cases hexVal lo with
    | none => simp
    | some l => simpa using hsum h l

/-! ### `Valid()` (R112) -/

/-- The stages of `Valid()`, each on what the stage before it answered; the checksum is compared as a byte. -/
theorem validPayload_eq_some_iff {s : State} {payload : Bytes} :
    validPayload s = some payload ↔
      s.accOvf = false ∧
      ∃ tokens, carriedChecksum s.ckHi s.ckLo = some (tokSum tokens) ∧ tokenize s.acc = some tokens ∧
        expand tokens = some payload ∧ capAdmits s.params.maxPayload payload.length = true := by
  unfold validPayload
  cases s.accOvf with
  | true => simp
  | false =>
    cases carriedChecksum s.ckHi s.ckLo with
    | none => simp
    | some carried =>
      cases tokenize s.acc with
      | none => simp
      | some tokens =>
        by_cases hsum : tokSum tokens = carried
        case neg => simp [hsum, Ne.symm hsum]
        cases hout : expand tokens with
        | none => simp [hsum, hout]
        | some out =>
          have hfit : (out = payload ∧ capAdmits s.params.maxPayload out.length = true) ↔
              out = payload ∧ capAdmits s.params.maxPayload payload.length = true :=
            and_congr_right fun h => by rw [h]
          simpa [hsum, hout, and_comm] using hfit

/-- Settles O18: the stages of `Valid()` (`validPayload_eq_some_iff`), with the carried checksum read as its two digits
(`carriedChecksum_eq_some_iff`). -/
theorem validityIsTheSixConditions : Obligations.ValidityIsTheSixConditions := by
  intro s payload
  rw [validPayload_eq_some_iff]
  refine and_congr_right fun _ => ⟨?mp, ?mpr⟩
  case mp =>
    rintro ⟨tokens, hck, htok, hout, hfit⟩
    obtain ⟨h, l, hh, hl, hsum⟩ := carriedChecksum_eq_some_iff.mp hck
    exact ⟨h, l, tokens, hh, hl, htok, hsum, hout, hfit⟩
  case mpr =>
    rintro ⟨h, l, tokens, hh, hl, htok, hsum, hout, hfit⟩
    exact ⟨tokens, carriedChecksum_eq_some_iff.mpr ⟨h, l, hh, hl, hsum⟩, htok, hout, hfit⟩

end Sys2Proof.Machine
end

section
/-! The host's receive and session commands (R130 to R132, R165): issued with no command in progress, each is its effect at
once, and an answered one leaves the port idle. -/

namespace Sys2Proof.Machine

/-! ### Answers at the host port -/

/-- R22: a command issued with none in progress has its step. -/
theorem onCommand_of_idle {s : State} (hidle : s.hostState = .idle) (effect : State → State) :
    onCommand s effect = .next (effect { s with resp := none }) :=
  onCommand_eq_next.mpr ⟨hidle, rfl⟩

/-- R22: an answer given in the step of its command changes `resp` alone. -/
theorem respond_of_idle {s : State} (hidle : s.hostState = .idle) (v : Response) :
    respond v s = { s with resp := some v } := by
  rw [respond, ← hidle]

/-! ### `AVAILABLE` (R130) -/

theorem exec_available_of_idle {s : State} (hidle : s.hostState = .idle) (block : Bool) :
    exec (.available block) s = .next (
      if s.pktValid = true then { s with resp := some (.bool true) }
      else if block = false ∨ s.fatal ≠ .none then { s with resp := some (.bool false) }
      else { s with resp := none, hostState := .waitAvail }) := by
  rw [exec, execAvailable, onCommand_of_idle hidle]
  simp only [respond_of_idle (s := { s with resp := none }) hidle, broken_eq_true]

/-- Settles O32: the three branches of R130, full slot, nothing to wait for, and a wait. -/
theorem availableAnswersOrWaits : Obligations.AvailableAnswersOrWaits := by
  intro s block hidle
  rw [exec_available_of_idle hidle]
  refine ⟨fun hfull => ?full, fun hempty hnow => ?answered, fun hempty hblock hf => ?waits⟩
  case full => rw [if_pos hfull]
  case answered => rw [if_neg (by simp [hempty]), if_pos hnow]
  case waits => rw [if_neg (by simp [hempty]), if_neg (by simp [hblock, hf])]

/-! ### `RCV` (R131) -/

/-- R131: the old packet answers and the slot is empty, a held frame not yet judged. -/
def packetTaken (s : State) : State :=
  { s with resp := some (.packet s.pktPayload s.pktNotif), pktValid := false, pktPayload := [], pktNotif := false }

/-- R187 item 4: the old packet is taken before a held frame is judged. -/
theorem exec_rcv_fullSlot {s : State} (hidle : s.hostState = .idle) (hfull : s.pktValid = true) :
    exec .rcv s = .next (tryValidate (packetTaken s)) := by
  rw [exec, execRcv, onCommand_of_idle hidle]
  simp [packetTaken, hfull, hidle]

/-- The verdict on a held frame does not depend on the packet before it. -/
theorem validPayload_packetTaken (s : State) : validPayload (packetTaken s) = validPayload s :=
  validPayload_congr rfl rfl rfl rfl rfl

/-- R110: outside `VALIDATE` there is nothing to judge. -/
theorem tryValidate_of_ne_validate {s : State} (hrx : s.rxState ≠ .validate) : tryValidate s = s :=
  if_pos hrx

/-- The acknowledgment of a frame, on a connection healthy or broken (R31, R114, R115). -/
theorem ack_eq_ite (b : Byte) (s : State) :
    (if ackDue s && !broken s then [b] else []) =
      if s.rxNotif = false ∧ s.noack = false ∧ s.fatal = .none then [b] else [] := by
  simp [ackDue, broken_eq_false, and_assoc]

/-- Settles O34: no frame is held, so taking the packet is all that `RCV` does. -/
theorem rcvTakesThePacket : Obligations.RcvTakesThePacket := by
  intro s hidle hfull hrx
  rw [exec_rcv_fullSlot hidle hfull, tryValidate_of_ne_validate (s := packetTaken s) hrx, packetTaken]

/-- Settles O35, by `tryValidate_valid` and `tryValidate_invalid` once the old packet is taken; no `AVAILABLE` is waiting
then, for the port is idle. -/
theorem rcvReleasesTheHeldFrame : Obligations.RcvReleasesTheHeldFrame := by
  intro s hidle hfull hrx
  rw [exec_rcv_fullSlot hidle hfull]
  refine ⟨fun payload hvalid => ?valid, fun hinvalid => ?invalid⟩
  case valid =>
    have hv := (validPayload_packetTaken s).trans hvalid
    rw [tryValidate_valid (s := packetTaken s) hrx rfl hv, ack_eq_ite]
    simp [packetTaken, hidle]
  case invalid =>
    have hv := (validPayload_packetTaken s).trans hinvalid
    rw [tryValidate_invalid (s := packetTaken s) hrx rfl hv, ack_eq_ite]
    rfl

/-! ### `IS_RELIABLE` and `SET_NOACK` (R132, R165) -/

/-- Settles O41: both commands are answered in their step. -/
theorem sessionCommandsAnswerAtOnce : Obligations.SessionCommandsAnswerAtOnce := by
  intro s hidle
  refine ⟨?isReliable, ?setNoack⟩
  case isReliable =>
    rw [exec, execIsReliable, onCommand_of_idle hidle, respond_of_idle (s := { s with resp := none }) hidle]
  case setNoack =>
    rw [exec, execSetNoack, onCommand_of_idle hidle,
      respond_of_idle (s := { s with resp := none, noack := true, pend := none }) hidle]

end Sys2Proof.Machine
end

section
/-! The command `SND` (R140 to R145), and which frames hold the BREAK byte (R146, R203, R204). -/

namespace Sys2Proof.Machine

/-! ### `SND` (R140 to R145) -/

/-- The branches of `SND` with no command in progress: on a broken connection (R144), completed at once (R141, R142),
and awaiting an acknowledgment (R143). -/
theorem exec_snd_of_idle {s : State} {payload : Bytes} (hidle : s.hostState = .idle)
    (hfit : capAdmits s.params.maxPayload payload.length = true) (notif : Bool) :
    exec (.snd payload notif) s = .next (
      if s.fatal ≠ .none then { s with resp := some (.bool false) }
      else if notif = true ∨ s.noack = true then
        { s with resp := some (.bool true), txOut := s.txOut ++ frame payload notif }
      else
        { s with
          resp := none, txOut := s.txOut ++ frame payload notif
          pend := some (frame payload notif), retryCnt := 0, hostState := .waitAck }) := by
  rw [exec, execSnd, if_pos hfit, onCommand_of_idle hidle]
  by_cases hf : s.fatal = .none
  case pos =>
    have hhealthy : ¬ broken { s with resp := none } = true := fun hb => (broken_eq_true _).mp hb hf
    have hemit : emit (frame payload notif) { s with resp := none } =
        { s with resp := none, txOut := s.txOut ++ frame payload notif } := if_neg hhealthy
    rw [if_neg (by exact hhealthy), if_neg (not_not.mpr hf), hemit,
      respond_of_idle (s := { s with resp := none, txOut := s.txOut ++ frame payload notif }) hidle]
    exact congrArg _ (if_congr Bool.or_eq_true_iff rfl rfl)
  case neg =>
    rw [if_pos (by exact (broken_eq_true _).mpr hf), if_pos hf,
      respond_of_idle (s := { s with resp := none }) hidle]

/-- Settles O36: `SND` on a healthy connection that awaits no acknowledgment. -/
theorem sndWithoutAcknowledgment : Obligations.SndWithoutAcknowledgment := by
  intro s payload notif hidle hf hfit hnow
  rw [exec_snd_of_idle hidle hfit, if_neg (not_not.mpr hf), if_pos hnow]

/-- Settles O37: `SND` of a packet in ack mode on a healthy connection. -/
theorem sndWaitsForAcknowledgment : Obligations.SndWaitsForAcknowledgment := by
  intro s payload hidle hf hack hfit
  rw [exec_snd_of_idle hidle hfit, if_neg (not_not.mpr hf), if_neg (by simp [hack])]

/-- Settles O38: `SND` on a broken connection. -/
theorem sndOnBrokenConnection : Obligations.SndOnBrokenConnection := by
  intro s payload notif hidle hf hfit
  rw [exec_snd_of_idle hidle hfit, if_pos hf]

/-- A host command is refused as busy or not at all (R34). -/
theorem onCommand_ne_refused {r : Refusal} (hr : r ≠ .hostBusy) (s : State) (effect : State → State) :
    onCommand s effect ≠ .refused r := by
  unfold onCommand
  split
  · nofun
  · simpa using hr.symm

/-- Settles O39: the capacity is tested before the command is issued, and `INF` admits every length. -/
theorem oversizeSndIsRefused : Obligations.OversizeSndIsRefused := by
  intro s payload notif
  refine ⟨fun n hcap hlong => ?long, fun hcap => ?inf⟩
  case long =>
    have hover : ¬ capAdmits s.params.maxPayload payload.length = true := by
      simpa [hcap, capAdmits] using hlong
    rw [exec, execSnd, if_neg hover]
  case inf =>
    rw [exec, execSnd, if_pos (by rw [hcap]; rfl)]
    exact onCommand_ne_refused (r := .oversizePayload) nofun s _

/-! ### The BREAK byte in a frame (R146, R203, R204) -/

/-- 0x03 is sent as itself, and as the second byte of the escape pair of `#`. -/
theorem break_mem_escByte_iff : ∀ b : Byte, chBreak ∈ escByte b ↔ b = chBreak ∨ b = chHash := by decide

theorem break_mem_esc_iff (payload : Bytes) : chBreak ∈ esc payload ↔ chBreak ∈ payload ∨ chHash ∈ payload := by
  induction payload with
  | nil => simp
  | cons b payload ih =>
    rw [esc_cons, List.mem_append, break_mem_escByte_iff, ih, List.mem_cons, List.mem_cons, eq_comm, @eq_comm _ b]
    tauto

theorem break_ne_hexChar : ∀ d : BitVec 4, chBreak ≠ hexChar d := by decide

theorem break_ne_marker : ∀ notif : Bool, chBreak ≠ marker notif := by decide

/-- Settles O27: neither the markers nor the checksum digits are 0x03, so it stands in the escaped payload. -/
theorem frameHoldsBreakByteIff : Obligations.FrameHoldsBreakByteIff := by
  intro payload notif
  refine Iff.trans ?_ (break_mem_esc_iff payload)
  simp only [frame, hex2, List.mem_cons, List.mem_append, List.not_mem_nil, break_ne_marker, break_ne_hexChar,
    show chBreak ≠ chHash from nofun, false_or, or_false]

end Sys2Proof.Machine
end

section
/-! A frame received whole (R91 to R97, R170): the run over its bytes, from the marker to the second checksum character,
and the round trip of a transmitted frame (R146). -/

namespace Sys2Proof.Machine

/-! ### Bytes taken from the receive stream -/

/-- What taking received bytes does beside their rows: the inputs advance, the tap sees each byte (R170), and the pulse
`brk_clr` is over once one is taken (entry 8). -/
def bytesTaken (bytes : Bytes) (rest : List Input) (s : State) : State :=
  { s with
    inputs := rest, brk := s.brk || decide (chBreak ∈ bytes), brkClr := s.brkClr && bytes.isEmpty }

@[simp] theorem bytesTaken_nil (s : State) : bytesTaken [] s.inputs s = s := by
  simp [bytesTaken]

@[simp] theorem bytesTaken_bytesTaken (a b : Bytes) (rest rest' : List Input) (s : State) :
    bytesTaken b rest' (bytesTaken a rest s) = bytesTaken (a ++ b) rest' s := by
  cases a <;> simp [bytesTaken, Bool.or_assoc]

/-- A run goes on behind a received byte with what the byte's row does (R90): the row that stands for the byte in the
receive state (R76). A held framer selects none. -/
theorem run_succ_of_rxByte {s t : State} {b : Byte} {rest : List Input} (i : Instr) (n : Nat)
    (hin : s.inputs = .rxByte b :: rest) (hf : s.fatal = .none)
    (hi : encode i = .rxByte b) (htap : i ≠ .rxbBreakTap) (hsel : rowSelected (rxContext s) i = true)
    (ht : exec i (bytesTaken [b] rest s) = .next t) : run (n + 1) s = run n t := by
  have hrow := decodeByte_of_encode htap hsel hi
  have hrx : s.rxState ≠ .validate := fun hrx => by
    simp [decodeByte, rxContext, (broken_eq_false s).mpr hf, hrx] at hrow
  obtain ⟨-, -, haccepted⟩ := receivedBytePassesTheTap s b rest hin
  obtain ⟨j, hj, hstep⟩ := haccepted hf hrx
  obtain rfl : i = j := Except.ok.inj (hrow.symm.trans hj)
  have htaken : bytesTaken [b] rest s = { s with inputs := rest, brkClr := false, brk := s.brk || b == 0x03 } := by
    simp [bytesTaken, eq_comm, beq_eq_decide]
  rw [run, hstep, ← htaken, ht]

/-! ### The bytes of a frame, by their rows -/

section
variable {s : State} {rest : List Input} (n : Nat)

/-- R91, R92: a start marker opens a frame of its kind. -/
theorem run_marker {notif : Bool} (hin : s.inputs = .rxByte (marker notif) :: rest) (hf : s.fatal = .none)
    (hrx : s.rxState = .scanForStart) :
    run (n + 1) s = run n (bytesTaken [marker notif] rest
      { s with rxNotif := notif, acc := [], accOvf := false, rxState := .accumulatePayload }) := by
  cases notif with
  | false =>
    have hsel := (rowSelected_startPacket s).mpr ⟨hf, hrx⟩
    exact run_succ_of_rxByte .rxbStartPacket n hin hf rfl nofun hsel (onRow_eq_next.mpr ⟨hsel, rfl⟩)
  | true =>
    have hsel := (rowSelected_startNotification s).mpr ⟨hf, hrx⟩
    exact run_succ_of_rxByte .rxbStartNotification n hin hf rfl nofun hsel
      (onRow_eq_next.mpr ⟨hsel, rfl⟩)

/-- R95: a payload byte that finds room is stored. -/
theorem run_payloadByte {b : Byte} (hin : s.inputs = .rxByte b :: rest) (hf : s.fatal = .none)
    (hrx : s.rxState = .accumulatePayload) (hb : b ≠ chHash)
    (hroom : capAdmits s.params.maxWire (s.acc.length + 1) = true) :
    run (n + 1) s = run n (bytesTaken [b] rest { s with acc := s.acc ++ [b] }) := by
  have hsel := (rowSelected_payloadByte s b).mpr ⟨⟨hf, hrx⟩, hb⟩
  refine run_succ_of_rxByte (.rxbPayloadByte b) n hin hf rfl nofun hsel
    (onRow_eq_next.mpr ⟨hsel, ?_⟩)
  rw [if_pos (by exact (capHasRoom_eq _ _).trans hroom)]
  rfl

/-- R94: `#` ends the payload. -/
theorem run_hash (hin : s.inputs = .rxByte chHash :: rest) (hf : s.fatal = .none)
    (hrx : s.rxState = .accumulatePayload) :
    run (n + 1) s = run n (bytesTaken [chHash] rest { s with rxState := .readChecksum, ckCnt := false }) := by
  have hsel := (rowSelected_endPayload s).mpr ⟨hf, hrx⟩
  exact run_succ_of_rxByte .rxbEndPayload n hin hf rfl nofun hsel (onRow_eq_next.mpr ⟨hsel, rfl⟩)

/-- R96: the first checksum character is kept. -/
theorem run_checksumHi {hi : Byte} (hin : s.inputs = .rxByte hi :: rest) (hf : s.fatal = .none)
    (hrx : s.rxState = .readChecksum) (hck : s.ckCnt = false) :
    run (n + 1) s = run n (bytesTaken [hi] rest { s with ckHi := hi, ckCnt := true }) := by
  have hsel := (rowSelected_checksumHi s hi).mpr ⟨⟨hf, hrx⟩, hck⟩
  exact run_succ_of_rxByte (.rxbChecksumHi hi) n hin hf rfl nofun hsel
    (onRow_eq_next.mpr ⟨hsel, rfl⟩)

/-- R97: the second checksum character ends the frame, which is judged or held in the same step. -/
theorem run_checksumLo {lo : Byte} (hin : s.inputs = .rxByte lo :: rest) (hf : s.fatal = .none)
    (hrx : s.rxState = .readChecksum) (hck : s.ckCnt = true) :
    run (n + 1) s = run n (tryValidate (bytesTaken [lo] rest (frameEnded lo s))) :=
  run_succ_of_rxByte (.rxbChecksumLo lo) n hin hf rfl nofun
    ((rowSelected_checksumLo s lo).mpr ⟨⟨hf, hrx⟩, hck⟩)
    (exec_checksumLo (s := bytesTaken [lo] rest s) lo hf hrx hck)

/-- R95: a wire payload that fits is stored whole. -/
theorem run_payloadBytes (wire : Bytes) (hin : s.inputs = wire.map .rxByte ++ rest) (hf : s.fatal = .none)
    (hrx : s.rxState = .accumulatePayload) (hhash : chHash ∉ wire)
    (hfit : capAdmits s.params.maxWire (s.acc.length + wire.length) = true) :
    run (wire.length + n) s = run n (bytesTaken wire rest { s with acc := s.acc ++ wire }) := by
  induction wire generalizing s with
  | nil =>
    obtain rfl : s.inputs = rest := hin
    simp
  | cons b wire ih =>
    obtain ⟨hb, hhash⟩ := List.ne_and_not_mem_of_not_mem_cons hhash
    have hroom : capAdmits s.params.maxWire (s.acc.length + 1) = true := capAdmits_mono (by simp) hfit
    rw [List.length_cons, Nat.add_right_comm, run_payloadByte _ hin hf hrx (Ne.symm hb) hroom,
      ih (by rfl) (by exact hf) (by exact hrx) hhash (by simpa [bytesTaken, Nat.add_assoc, Nat.add_comm 1] using hfit),
      List.append_cons s.acc b wire]
    exact congrArg (run n) (bytesTaken_bytesTaken [b] wire _ rest { s with acc := s.acc ++ [b] ++ wire })

end

/-! ### A whole frame -/

/-- The bytes of a frame with any wire payload and any two checksum characters. -/
def wireFrame (notif : Bool) (wire : Bytes) (hi lo : Byte) : Bytes := marker notif :: (wire ++ [chHash, hi, lo])

/-- The state in which a frame received whole is judged (R97). -/
def frameRead (notif : Bool) (wire : Bytes) (hi lo : Byte) (rest : List Input) (s : State) : State :=
  bytesTaken (wireFrame notif wire hi lo) rest
    { s with
      rxNotif := notif, acc := wire, accOvf := false, ckHi := hi, ckLo := lo, ckCnt := false, rxState := .validate }

/-- A frame whose wire payload fits is read whole by a healthy connection that scans, and then judged or held. -/
theorem run_wireFrame {s : State} {notif : Bool} {wire : Bytes} {hi lo : Byte} {rest : List Input}
    (hin : s.inputs = (wireFrame notif wire hi lo).map .rxByte ++ rest) (hf : s.fatal = .none)
    (hrx : s.rxState = .scanForStart) (hhash : chHash ∉ wire)
    (hfit : capAdmits s.params.maxWire wire.length = true) :
    run (wireFrame notif wire hi lo).length s = .next (tryValidate (frameRead notif wire hi lo rest s)) := by
  have hbytes : s.inputs = .rxByte (marker notif) :: (wire.map .rxByte ++
      .rxByte chHash :: .rxByte hi :: .rxByte lo :: rest) := by simpa [wireFrame] using hin
  have hlength : (wireFrame notif wire hi lo).length = wire.length + 3 + 1 := by simp [wireFrame]
  rw [hlength, run_marker _ hbytes hf hrx,
    run_payloadBytes 3 wire (by rfl) (by exact hf) (by rfl) hhash (by simpa [bytesTaken] using hfit),
    run_hash 2 (by rfl) (by exact hf) (by rfl), run_checksumHi 1 (by rfl) (by exact hf) (by rfl) (by rfl),
    run_checksumLo 0 (by rfl) (by exact hf) (by rfl) (by rfl)]
  simp [run, frameRead, wireFrame, frameEnded, bytesTaken, Bool.or_assoc]

/-! ### The frame of a payload (R146) -/

/-- A transmitted frame carries its payload escaped, and the payload's checksum in digits (R69, R71, R75). -/
theorem frame_eq_wireFrame (payload : Bytes) (notif : Bool) :
    ∃ hi lo, frame payload notif = wireFrame notif (esc payload) hi lo ∧
      carriedChecksum hi lo = some (sum8 payload) := by
  obtain ⟨hdigits, -⟩ := checksumDigitsReadBack
  obtain ⟨hi, lo, hhex, -, -, hcarried⟩ := hdigits (sum8 payload)
  exact ⟨hi, lo, by rw [frame, wireFrame, hhex], hcarried⟩

/-- R112: a frame with an escaped payload and the payload's checksum is valid, and is read as the payload. -/
theorem validPayload_frameRead {payload : Bytes} {hi lo : Byte} (hcarried : carriedChecksum hi lo = some (sum8 payload))
    (notif : Bool) (rest : List Input) {s : State} (hfit : capAdmits s.params.maxPayload payload.length = true) :
    validPayload (frameRead notif (esc payload) hi lo rest s) = some payload :=
  validPayload_eq_some_iff.mpr ⟨rfl, payload.map .lit, hcarried.trans (by rw [tokSum_map_lit]), tokenize_esc payload,
    expand_map_lit payload, hfit⟩

/-- Settles O28: the frame's bytes are read whole (`run_wireFrame`), the frame is valid (`validPayload_frameRead`), and
the empty slot takes its payload (`tryValidate_valid`). -/
theorem frameRoundTrip : Obligations.FrameRoundTrip := by
  intro s payload notif rest hf hrx hempty hfit hwire hin
  obtain ⟨hi, lo, hframe, hcarried⟩ := frame_eq_wireFrame payload notif
  rw [hframe] at hin ⊢
  have hroom : capAdmits s.params.maxWire (esc payload).length = true :=
    hwire.elim id (capAdmits_mono (length_esc payload).2)
  have hrun := run_wireFrame hin hf hrx (not_mem_esc (by decide) rfl payload) hroom
  have hvalid := validPayload_frameRead hcarried notif rest hfit
  rw [tryValidate_valid (s := frameRead notif (esc payload) hi lo rest s) rfl hempty hvalid,
    ack_of_healthy (s := frameRead notif (esc payload) hi lo rest s) hf] at hrun
  exact ⟨_, hrun, rfl, rfl, rfl, rfl, rfl, rfl, rfl, rfl⟩

end Sys2Proof.Machine
end

section
/-! The acknowledgment machine (R156 to R159, R166): what a `+`, a `-` and a timeout do to a waiting `SND`, runs of
negative events, and no-ack mode. -/

namespace Sys2Proof.Machine

/-! ### One event (R156 to R159) -/

/-- Settles O44: the row of `+` is selected while a `SND` waits in `SCAN_FOR_START`. -/
theorem ackPlusCompletesSnd : Obligations.AckPlusCompletesSnd := by
  intro s hf hrx hwait
  exact onRow_eq_next.mpr ⟨(rowSelected_ackPlus s).mpr ⟨⟨hf, hrx⟩, hwait⟩, rfl⟩

/-- R157: a `-` that finds a waiting `SND` in `SCAN_FOR_START` is a negative event. -/
theorem exec_ackMinus {s : State} (hf : s.fatal = .none) (hrx : s.rxState = .scanForStart)
    (hwait : s.hostState = .waitAck) : exec .rxbAckMinus s = .next (negativeEvent s) :=
  onRow_eq_next.mpr ⟨(rowSelected_ackMinus s).mpr ⟨⟨hf, hrx⟩, hwait⟩, rfl⟩

/-- R159: a timeout is a negative event in every receive state. -/
theorem exec_ackTimeout {s : State} (hwait : s.hostState = .waitAck) :
    exec .ackTimeout s = .next (negativeEvent s) :=
  if_pos hwait

/-- R158: while retries are left the frame goes out again as it was. -/
theorem negativeEvent_retransmits {s : State} {f : Bytes} (hf : s.fatal = .none) (hpend : s.pend = some f)
    (hleft : s.retryCnt < s.params.maxRetries) :
    negativeEvent s = { s with txOut := s.txOut ++ f, retryCnt := s.retryCnt + 1 } := by
  obtain ⟨-, e⟩ | ⟨hnone, -⟩ := negativeEvent_cases s
  · simpa [(broken_eq_false s).mpr hf, hpend] using e
  · exact absurd hleft (Nat.not_lt.mpr hnone)

/-- R158, R184: with no retry left the connection ends, and with it the waiting `SND`. -/
theorem negativeEvent_exhausts {s : State} (hf : s.fatal = .none) (hnone : s.params.maxRetries ≤ s.retryCnt) :
    negativeEvent s = { s with
      fatal := .retryExhausted, pend := none, retryCnt := 0, resp := some (.bool false), hostState := .idle
      raised := s.raised ++ [.retryExhausted] } := by
  obtain ⟨hleft, -⟩ | ⟨-, e⟩ := negativeEvent_cases s
  · exact absurd hleft (Nat.not_lt.mpr hnone)
  · simpa [(broken_eq_false s).mpr hf] using e

/-- Settles O45: both rows are the one negative event (`exec_ackMinus`, `exec_ackTimeout`), and `MAX_RETRIES` decides
what it does. -/
theorem negativeEventsRetransmitOrExhaust : Obligations.NegativeEventsRetransmitOrExhaust := by
  intro s f hf hwait hpend
  refine ⟨fun hleft => ?retransmits, fun hnone => ?exhausts⟩
  case retransmits =>
    rw [← negativeEvent_retransmits hf hpend hleft]
    exact ⟨fun hrx => exec_ackMinus hf hrx hwait, exec_ackTimeout hwait⟩
  case exhausts =>
    rw [← negativeEvent_exhausts hf hnone]
    exact ⟨fun hrx => exec_ackMinus hf hrx hwait, exec_ackTimeout hwait⟩

/-! ### Runs of negative events (R158) -/

/-- A step with an input other than 0x03 on the receive stream is `exec` of the one row whose bits it is. -/
theorem step_of_encode {s : State} {input : Input} {rest : List Input} (i : Instr) (hin : s.inputs = input :: rest)
    (hi : encode i = input) (hbreak : input ≠ .rxByte 0x03) (hwf : i.wellFormed = true)
    (hsel : rowSelected (rxContext s) i = true) : step s = exec i (taken rest s) := by
  have htap : i ≠ .rxbBreakTap := fun h => hbreak (by rw [← hi, h]; rfl)
  have hd := decode_of_encode hwf hsel htap hi
  rw [if_neg fun h => hbreak h.1] at hd
  rw [step_of_decode_ok hin hd, runRows_one]

/-- A `SND` waits for the acknowledgment of the frame `f`, on a healthy connection with no inbound frame begun. -/
structure AwaitsAck (f : Bytes) (s : State) : Prop where
  healthy : s.fatal = .none
  scans : s.rxState = .scanForStart
  waits : s.hostState = .waitAck
  pends : s.pend = some f

/-- The two inputs that are negative events for a block that scans (R157, R159). -/
abbrev isNegative (e : Input) : Prop := e = .rxByte 0x2d ∨ e = .strobe .ackTimeout

/-- R157, R159: either input is the one negative event. -/
theorem step_of_isNegative {f : Bytes} {s : State} {e : Input} {rest : List Input} (hs : AwaitsAck f s)
    (hin : s.inputs = e :: rest) (he : isNegative e) : step s = .next (negativeEvent (taken rest s)) := by
  obtain ⟨hf, hrx, hwait, -⟩ := hs
  obtain rfl | rfl := he
  · rw [step_of_encode .rxbAckMinus hin rfl nofun rfl ((rowSelected_ackMinus s).mpr ⟨⟨hf, hrx⟩, hwait⟩)]
    exact exec_ackMinus (s := taken rest s) hf hrx hwait
  · rw [step_of_encode .ackTimeout hin rfl nofun rfl rfl]
    exact exec_ackTimeout (s := taken rest s) hwait

/-- The state after `k` retransmissions of `f`: one step each, which takes an input and ends the pulse `brk_clr`
(entry 8). -/
def retransmitted (f : Bytes) (k : Nat) (rest : List Input) (s : State) : State :=
  { s with
    txOut := s.txOut ++ (List.replicate k f).flatten, retryCnt := s.retryCnt + k, inputs := rest
    brkClr := s.brkClr && k == 0 }

@[simp] theorem retransmitted_zero (f : Bytes) (s : State) : retransmitted f 0 s.inputs s = s := by
  simp [retransmitted]

theorem retransmitted_succ (f : Bytes) (k : Nat) (rest rest' : List Input) (s : State) :
    retransmitted f k rest (retransmitted f 1 rest' s) = retransmitted f (k + 1) rest s := by
  simp [retransmitted, List.replicate_succ, Nat.add_assoc, Nat.add_comm 1]

theorem awaitsAck_retransmitted {f : Bytes} {s : State} (hs : AwaitsAck f s) (k : Nat) (rest : List Input) :
    AwaitsAck f (retransmitted f k rest s) :=
  ⟨hs.healthy, hs.scans, hs.waits, hs.pends⟩

/-- R158: one step with a retry left is one retransmission. -/
theorem step_retransmits {f : Bytes} {s : State} {e : Input} {rest : List Input} (hs : AwaitsAck f s)
    (hin : s.inputs = e :: rest) (he : isNegative e) (hleft : s.retryCnt < s.params.maxRetries) :
    step s = .next (retransmitted f 1 rest s) := by
  rw [step_of_isNegative hs hin he, negativeEvent_retransmits (s := taken rest s) hs.healthy hs.pends hleft]
  simp [taken, retransmitted]

/-- R158: while retries are left, a run of negative events is one retransmission for each. -/
theorem run_retransmits {f : Bytes} {s : State} (events rest : List Input) (n : Nat) (hs : AwaitsAck f s)
    (hin : s.inputs = events ++ rest) (hev : ∀ e ∈ events, isNegative e)
    (hleft : s.retryCnt + events.length ≤ s.params.maxRetries) :
    run (events.length + n) s = run n (retransmitted f events.length rest s) := by
  induction events generalizing s with
  | nil =>
    obtain rfl : s.inputs = rest := hin
    simp
  | cons e events ih =>
    rw [List.length_cons] at hleft ⊢
    obtain ⟨he, hev⟩ := List.forall_mem_cons.mp hev
    have hstep := step_retransmits hs hin he (by omega)
    have hleft' : s.retryCnt + 1 + events.length ≤ s.params.maxRetries := by omega
    rw [Nat.add_right_comm, run, hstep, ← retransmitted_succ f events.length rest (events ++ rest)]
    exact ih (awaitsAck_retransmitted hs 1 _) rfl hev hleft'

/-- Settles O46: the events that find a retry left are retransmissions (`run_retransmits`), and the one behind them ends
the connection (`negativeEvent_exhausts`). -/
theorem retransmissionsAreBounded : Obligations.RetransmissionsAreBounded := by
  intro s f events hf hrx hwait hpend hretry hin hev
  have hs : AwaitsAck f s := ⟨hf, hrx, hwait, hpend⟩
  refine ⟨fun hleft => ?retransmits, fun hlast => ?exhausts⟩
  case retransmits =>
    exact ⟨_, run_retransmits events [] 0 hs (by simpa using hin) hev hleft, rfl, rfl, hwait, hpend, hf⟩
  case exhausts =>
    obtain rfl | ⟨early, e, rfl⟩ := List.eq_nil_or_concat' events
    · simp only [List.length_nil] at hlast
      omega
    · obtain ⟨hearly, he⟩ := List.forall_mem_append.mp hev
      rw [List.length_append, List.length_singleton] at hlast ⊢
      have hcount : early.length = s.params.maxRetries - s.retryCnt := by omega
      have hleft : s.retryCnt + early.length = s.params.maxRetries := by omega
      have hstep := step_of_isNegative (rest := []) (awaitsAck_retransmitted hs early.length [e]) rfl
        (he e List.mem_cons_self)
      rw [negativeEvent_exhausts (s := taken [] (retransmitted f early.length [e] s)) hf hleft.ge] at hstep
      rw [run_retransmits early [e] 1 hs hin hearly hleft.le, run, hstep, ← hcount]
      exact ⟨_, rfl, rfl, rfl, rfl, rfl, rfl, rfl⟩

/-! ### No-ack mode (R166) -/

/-- R114, R115: no acknowledgment is due in no-ack mode. -/
theorem ack_of_noack {s : State} (hnoack : s.noack = true) (out : Bytes) (b : Byte) :
    out ++ (if ackDue s && !broken s then [b] else []) = out := by
  simp [ackDue, hnoack]

/-- Settles O47: the rows that could emit are the acknowledgments, which are not due, a retransmission, which nothing
awaits, and `SND`, which does not wait. -/
theorem noAckModeIsSilent : Obligations.NoAckModeIsSilent := by
  intro i s t hevent hnoack hwait h
  cases exec_effect h with
  | retransmit _ hw | exhaust _ hw => exact absurd hw hwait
  | frameValid | frameInvalid | rcvHeldValid | rcvHeldInvalid => exact ack_of_noack hnoack s.txOut _
  | sndBroken hidle _ hf => exact ⟨hidle, by simp [hf]⟩
  | sndAtOnce hidle _ hf => exact ⟨hidle, by simp [hf]⟩
  | sndWaits _ _ _ hack => simp [hnoack] at hack
  | wireForm hi | checksumChar hi | transmit hi | response hi => simp [isEventRow, isEventInput, hi] at hevent
  | transmitNotDue hi => obtain rfl | rfl := hi <;> cases hevent
  | _ => rfl

end Sys2Proof.Machine
end

section
/-! Noninterference (R167, R174): the levels `RELIABLE` and `brk` are seen by the rows that answer or write them, and
by no other. -/

namespace Sys2Proof.Machine

/-! ### Guards under a view -/

/-- A guard that does not see what a view changes lets the same rows through. -/
theorem onRow_viewed {view : State → State} {i : Instr} {s t t' : State} (hcontext : rxContext (view s) = rxContext s)
    (hready : rxReady (view s) = rxReady s) (ht : t' = view t) :
    onRow i (view s) t' = viewed view (onRow i s t) := by
  rw [ht, onRow, onRow, hcontext, hready]
  cases rowSelected (rxContext s) i <;> cases rxReady s <;> rfl

theorem onCommand_viewed {view : State → State} {effect : State → State} {s : State}
    (hhost : (view s).hostState = s.hostState)
    (heffect : effect { view s with resp := none } = view (effect { s with resp := none })) :
    onCommand (view s) effect = viewed view (onCommand s effect) := by
  unfold onCommand
  rw [apply_ite (viewed view)]
  exact if_congr (by rw [hhost]) (congrArg _ heffect) rfl

/-- What one view changes and the next one hides is not seen. -/
theorem viewed_viewed {view view' hidden : State → State} (h : ∀ t, view (view' t) = hidden t)
    (o : Host.Outcome State Fault Refusal) : viewed view (viewed view' o) = viewed hidden o := by
  cases o with
  | next t => exact congrArg _ (h t)
  | fault | refused => rfl

/-! ### Other values of the two levels -/

/-- A state with other values of `RELIABLE` (R33) and of `brk` (R19). -/
def mapLevels (f g : Bool → Bool) (s : State) : State :=
  { s with params := { s.params with reliable := f s.params.reliable }, brk := g s.brk }

/-- The rows that answer `RELIABLE`, and those that answer or write `brk` (R132, R170 to R173, R200). -/
def usesLevels : Instr → Bool
  | .isReliable | .pendingBreak | .clearBreak | .rxbBreakTap | .brkin | .reset => true
  | _ => false

section
variable (f g : Bool → Bool) (s : State)

theorem emit_mapLevels (bytes : Bytes) : emit bytes (mapLevels f g s) = mapLevels f g (emit bytes s) := by
  rw [emit_eq, emit_eq]
  rfl

theorem emitAck_mapLevels (b : Byte) : emitAck b (mapLevels f g s) = mapLevels f g (emitAck b s) := by
  rw [emitAck_eq, emitAck_eq]
  rfl

theorem tryValidate_mapLevels : tryValidate (mapLevels f g s) = mapLevels f g (tryValidate s) := by
  rw [tryValidate, tryValidate, apply_ite (mapLevels f g), apply_ite (mapLevels f g),
    show validPayload (mapLevels f g s) = validPayload s from rfl]
  cases validPayload s with
  | some payload => simp only [deliver_eq, cleanup]; rfl
  | none => simp only [reject_eq, cleanup]; rfl

theorem raiseError_mapLevels (e : RspError) : raiseError e (mapLevels f g s) = mapLevels f g (raiseError e s) := by
  cases e with
  | checksumMismatch | protocolStateError => rfl
  | transportFailure | retryExhausted =>
    simp only [raiseError, setFatal, apply_ite (mapLevels f g)]
    rfl

theorem negativeEvent_mapLevels : negativeEvent (mapLevels f g s) = mapLevels f g (negativeEvent s) := by
  rw [negativeEvent, negativeEvent, apply_ite (mapLevels f g), raiseError_mapLevels,
    show (mapLevels f g s).pend = s.pend from rfl, emit_mapLevels]
  rfl

/-! ### One row -/

theorem execAvailable_mapLevels (block : Bool) :
    execAvailable block (mapLevels f g s) = viewed (mapLevels f g) (execAvailable block s) := by
  refine onCommand_viewed rfl ?_
  rw [apply_ite (mapLevels f g), apply_ite (mapLevels f g)]
  rfl

theorem execRcv_mapLevels : execRcv (mapLevels f g s) = viewed (mapLevels f g) (execRcv s) := by
  refine onCommand_viewed rfl ?_
  rw [apply_ite (mapLevels f g), ← tryValidate_mapLevels]
  rfl

theorem execSnd_mapLevels (payload : Bytes) (notif : Bool) :
    execSnd payload notif (mapLevels f g s) = viewed (mapLevels f g) (execSnd payload notif s) := by
  rw [execSnd, execSnd, apply_ite (viewed (mapLevels f g))]
  refine if_congr Iff.rfl (onCommand_viewed rfl ?_) rfl
  rw [apply_ite (mapLevels f g), apply_ite (mapLevels f g), emit_eq, emit_eq]
  rfl

theorem execAckTimeout_mapLevels :
    execAckTimeout (mapLevels f g s) = viewed (mapLevels f g) (execAckTimeout s) := by
  rw [execAckTimeout, execAckTimeout, negativeEvent_mapLevels, apply_ite (viewed (mapLevels f g))]
  rfl

theorem execLinkfail_mapLevels : execLinkfail (mapLevels f g s) = viewed (mapLevels f g) (execLinkfail s) := by
  have hfail : (if broken (mapLevels f g s) then mapLevels f g s
      else raiseError .transportFailure (mapLevels f g s)) =
      mapLevels f g (if broken s then s else raiseError .transportFailure s) := by
    rw [raiseError_mapLevels, apply_ite (mapLevels f g)]
    rfl
  rw [execLinkfail, hfail]
  refine congrArg Host.Outcome.next (Eq.symm ?_)
  exact apply_ite (mapLevels f g) _ _ _

/-- A row that neither answers nor writes the two levels acts the same whatever they are (R167, R174). -/
theorem exec_mapLevels {i : Instr} (hi : usesLevels i = false) :
    exec i (mapLevels f g s) = viewed (mapLevels f g) (exec i s) := by
  cases i with
  | isReliable | pendingBreak | clearBreak | rxbBreakTap | brkin | reset => cases hi
  | rxbAckMinus => exact onRow_viewed rfl rfl (negativeEvent_mapLevels f g s)
  | rxbPayloadByte b => exact onRow_viewed rfl rfl (by rw [apply_ite (mapLevels f g)]; rfl)
  | rxbChecksumLo b => exact onRow_viewed rfl rfl (tryValidate_mapLevels f g (frameEnded b s))
  | rxbStartPacket | rxbStartNotification | rxbAckPlus | rxbDiscard | rxbEndPayload | rxbChecksumHi
  | rxbFatalDiscard => exact onRow_viewed rfl rfl rfl
  | available block => exact execAvailable_mapLevels f g s block
  | rcv => exact execRcv_mapLevels f g s
  | snd payload notif => exact execSnd_mapLevels f g s payload notif
  | setNoack =>
    unfold exec
    refine onCommand_viewed rfl ?_
    rfl
  | ackTimeout => exact execAckTimeout_mapLevels f g s
  | linkfail => exact execLinkfail_mapLevels f g s
  | txAckPlus => exact congrArg _ (emitAck_mapLevels f g s chPlus)
  | txAckMinus => exact congrArg _ (emitAck_mapLevels f g s chMinus)
  | txFrame payload notif => exact congrArg _ (emit_mapLevels f g s (frame payload notif))
  | txEscapedByte b => exact congrArg _ (emit_mapLevels f g s (escapePair b))
  | _ => rfl

end

/-- A row other than `IS_RELIABLE` carries `RELIABLE` along: the rows of `brk` leave it, and the others are blind to
both levels (`exec_mapLevels`). -/
theorem exec_mapReliable (f : Bool → Bool) (s : State) {i : Instr} (hi : i ≠ .isReliable) :
    exec i (mapLevels f id s) = viewed (mapLevels f id) (exec i s) := by
  cases i with
  | isReliable => exact absurd rfl hi
  | rxbBreakTap => exact onRow_viewed rfl rfl rfl
  | pendingBreak | clearBreak =>
    unfold exec
    refine onCommand_viewed rfl ?_
    rfl
  | brkin | reset => rfl
  | _ => exact exec_mapLevels f id s rfl

/-- Settles O48: `RELIABLE` is carried along (`exec_mapReliable`), and the view hides it. -/
theorem reliableLevelIsNotRead : Obligations.ReliableLevelIsNotRead := by
  intro i s v hi
  exact (congrArg _ (exec_mapReliable (fun _ => v) s hi)).trans (viewed_viewed (fun _ => rfl) _)

end Sys2Proof.Machine
end

section
/-! BREAK (R170 to R174): its two sources, its poll and its clearing, and that no other row reads `brk`. -/

namespace Sys2Proof.Machine

/-! ### The sources of a BREAK (R170, R171) -/

/-- Settles O12: the tap's row is selected wherever a healthy connection accepts a byte, and `BRKIN` has no guard. -/
theorem breakSourcesSetOnlyBrk : Obligations.BreakSourcesSetOnlyBrk := by
  intro s
  exact ⟨fun hf hrx => exec_breakTap ((rowSelected_breakTap s).mpr ⟨hf, hrx⟩), rfl⟩

/-! ### The commands `PENDING_BREAK` and `CLEAR_BREAK` (R172, R173) -/

/-- R34: a command issued while one is in progress is refused. -/
theorem onCommand_of_busy {s : State} (hbusy : s.hostState ≠ .idle) (effect : State → State) :
    onCommand s effect = .refused .hostBusy :=
  if_neg hbusy

theorem exec_pendingBreak_of_idle {s : State} (hidle : s.hostState = .idle) :
    exec .pendingBreak s = .next { s with resp := some (.bool s.brk) } := by
  rw [exec, execPendingBreak, onCommand_of_idle hidle, respond_of_idle (s := { s with resp := none }) hidle]

theorem exec_clearBreak_of_idle {s : State} (hidle : s.hostState = .idle) :
    exec .clearBreak s = .next { s with brk := false, brkClr := true, resp := some .done } := by
  rw [exec, execClearBreak, onCommand_of_idle hidle,
    respond_of_idle (s := { s with resp := none, brk := false, brkClr := true }) hidle]

theorem exec_pendingBreak_of_busy {s : State} (hbusy : s.hostState ≠ .idle) :
    exec .pendingBreak s = .refused .hostBusy := by
  rw [exec, execPendingBreak, onCommand_of_busy hbusy]

theorem exec_clearBreak_of_busy {s : State} (hbusy : s.hostState ≠ .idle) :
    exec .clearBreak s = .refused .hostBusy := by
  rw [exec, execClearBreak, onCommand_of_busy hbusy]

/-- Settles O40: the two words are decoded, an idle port runs both commands, and a busy one refuses them. -/
theorem breakIsPolledAndCleared : Obligations.BreakIsPolledAndCleared := by
  refine ⟨fun payload => ⟨rfl, rfl⟩, fun s => ⟨fun hidle => ?idle, fun hbusy => ?busy⟩⟩
  case idle => exact ⟨exec_pendingBreak_of_idle hidle, exec_clearBreak_of_idle hidle⟩
  case busy => exact ⟨exec_pendingBreak_of_busy hbusy, exec_clearBreak_of_busy hbusy⟩

/-! ### `brk` is not read (R174) -/

/-- The view that does not show `brk`. -/
def hideBrk (s : State) : State := { s with brk := false }

/-- The view that shows neither `brk` nor the answer of its poll. -/
def hideBrkAndResp (s : State) : State := { s with brk := false, resp := none }

/-- R132: the answer of `IS_RELIABLE` does not depend on `brk`. -/
theorem exec_isReliable_mapBrk (g : Bool → Bool) (s : State) :
    exec .isReliable (mapLevels id g s) = viewed (mapLevels id g) (exec .isReliable s) :=
  onCommand_viewed rfl rfl

/-- A row other than the poll either writes `brk`, whatever it was, or carries it along unread (`exec_mapLevels`). -/
theorem exec_hideBrk {i : Instr} (hi : i ≠ .pendingBreak) (s : State) (v : Bool) :
    viewed hideBrk (exec i { s with brk := v }) = viewed hideBrk (exec i s) := by
  have carried (h : exec i (mapLevels id (fun _ => v) s) = viewed (mapLevels id fun _ => v) (exec i s)) :
      viewed hideBrk (exec i { s with brk := v }) = viewed hideBrk (exec i s) :=
    (congrArg _ h).trans (viewed_viewed (fun _ => rfl) _)
  cases i with
  | pendingBreak => exact absurd rfl hi
  | rxbBreakTap | brkin | clearBreak | reset => rfl
  | isReliable => exact carried (exec_isReliable_mapBrk _ s)
  | _ => exact carried (exec_mapLevels _ _ s rfl)

/-- R172: the poll reads `brk` for its response alone. -/
theorem exec_pendingBreak_hideBrkAndResp (s : State) (v : Bool) :
    viewed hideBrkAndResp (exec .pendingBreak { s with brk := v }) =
      viewed hideBrkAndResp (exec .pendingBreak s) := by
  by_cases hidle : s.hostState = .idle
  case pos =>
    rw [exec_pendingBreak_of_idle hidle, exec_pendingBreak_of_idle (s := { s with brk := v }) hidle]
    rfl
  case neg => rw [exec_pendingBreak_of_busy hidle, exec_pendingBreak_of_busy (s := { s with brk := v }) hidle]

theorem exec_hideBrkAndResp (i : Instr) (s : State) (v : Bool) :
    viewed hideBrkAndResp (exec i { s with brk := v }) = viewed hideBrkAndResp (exec i s) := by
  by_cases hi : i = .pendingBreak
  case pos =>
    subst hi
    exact exec_pendingBreak_hideBrkAndResp s v
  case neg =>
    have hcover (o : Host.Outcome State Fault Refusal) :
        viewed hideBrkAndResp (viewed hideBrk o) = viewed hideBrkAndResp o := viewed_viewed (fun _ => rfl) o
    rw [← hcover, exec_hideBrk hi, hcover]

/-! ### Writing `brk` (R174) -/

/-- The rows that move `brk` are the tap, `BRKIN` and `CLEAR_BREAK`, besides `RESET`; the last of the three is issued
with no command in progress. -/
theorem effect_brk_frame {i : Instr} {s t : State} (h : Effect i s t) (hreset : i ≠ .reset) (hbrk : t.brk ≠ s.brk) :
    { t with brk := s.brk, brkClr := s.brkClr, resp := s.resp } = s ∧
    (i ≠ .clearBreak → t.brkClr = s.brkClr ∧ t.resp = s.resp) ∧
    (s.hostState ≠ .idle → t.resp = s.resp) := by
  cases h with
  | breakTap | brkin => exact ⟨rfl, fun _ => ⟨rfl, rfl⟩, fun _ => rfl⟩
  | clearBreak hidle => exact ⟨rfl, fun hi => absurd rfl hi, fun hbusy => absurd hidle hbusy⟩
  | reset => exact absurd rfl hreset
  | _ => exact absurd rfl hbrk

/-- Settles O49: `brk` is hidden from every row but its poll, whose response shows it, and a row that moves it moves
nothing else (`effect_brk_frame`). -/
theorem brkIsReadByItsPollOnly : Obligations.BrkIsReadByItsPollOnly :=
  ⟨fun i s v => ⟨fun hi => exec_hideBrk hi s v, exec_hideBrkAndResp i s v⟩,
    fun _ _ _ h => effect_brk_frame (exec_effect h)⟩

end Sys2Proof.Machine
end

section
/-! A `RCV` without a packet (R182), `LINKFAIL` and the broken connection (R183, R185), and the list of refusals
(R190). -/

namespace Sys2Proof.Machine

/-! ### `RCV` without a packet (R182) -/

/-- Settles O33: the error is noted and answered, and the port is idle before and after. -/
theorem rcvWithoutPacketIsAnError : Obligations.RcvWithoutPacketIsAnError := by
  intro s hidle hempty
  rw [exec, execRcv, onCommand_of_idle hidle, if_neg (by simp [hempty]), raiseError,
    respond_of_idle (s := { s with resp := none, raised := s.raised ++ [.protocolStateError] }) hidle]

/-! ### `LINKFAIL` (R183) -/

/-- R23, R183: the first failure of a connection is recorded as its cause. -/
theorem raiseError_transportFailure {s : State} (hf : s.fatal = .none) :
    raiseError .transportFailure s =
      { s with fatal := .transportFailure, raised := s.raised ++ [.transportFailure] } :=
  if_neg fun hb => (broken_eq_true s).mp hb hf

/-- R23, R183: the failure is on record, this one or the one before it. -/
def failureRecorded (s : State) : State :=
  if s.fatal = .none then { s with fatal := .transportFailure, raised := s.raised ++ [.transportFailure] } else s

/-- R183: the failure is recorded, and a waiting command is answered. -/
theorem exec_linkfail (s : State) :
    exec .linkfail s = .next (
      if s.hostState = .idle then failureRecorded s
      else { failureRecorded s with pend := none, retryCnt := 0, resp := some (.bool false), hostState := .idle }) := by
  have hrecord : (if broken s = true then s else raiseError .transportFailure s) = failureRecorded s := by
    unfold failureRecorded
    split
    case isTrue hb => rw [if_neg ((broken_eq_true s).mp hb)]
    case isFalse hb =>
      have hf := (broken_eq_false s).mp (Bool.eq_false_of_not_eq_true hb)
      rw [if_pos hf, raiseError_transportFailure hf]
  rw [exec, execLinkfail, hrecord]
  rfl

/-- Settles O50: whether a failure is on record, and whether a command waits, are independent of each other. -/
theorem linkfailEndsTheConnection : Obligations.LinkfailEndsTheConnection := by
  intro s
  rw [exec_linkfail, failureRecorded]
  refine ⟨fun hf hidle => ?first, fun hf hbusy => ?firstWaiting, fun hf hidle => ?again, fun hf hbusy => ?againWaiting⟩
  case first => rw [if_pos hidle, if_pos hf]
  case firstWaiting => rw [if_neg hbusy, if_pos hf]
  case again => rw [if_pos hidle, if_neg hf]
  case againWaiting => rw [if_neg hbusy, if_neg hf]

/-! ### The broken connection (R185) -/

/-- R31, R185: what a broken connection would send is dropped, and the rows that test the connection first have no
step. -/
theorem effect_txOut_of_broken {i : Instr} {s t : State} (h : Effect i s t) (hf : s.fatal ≠ .none) :
    t.txOut = s.txOut := by
  have hb := (broken_eq_true s).mpr hf
  cases h with
  | retransmit | rcvHeldValid | rcvHeldInvalid | transmit => simp [hb]
  | frameValid hf' | frameInvalid hf' => exact absurd hf' hf
  | sndAtOnce _ _ hf' | sndWaits _ _ hf' => exact absurd hf' hf
  | _ => rfl

/-- R23: the first cause of a failure stays until `RESET`. -/
theorem effect_fatal_of_broken {i : Instr} {s t : State} (h : Effect i s t) (hf : s.fatal ≠ .none) (hi : i ≠ .reset) :
    t.fatal = s.fatal := by
  obtain hkept | hreset | ⟨hf', -⟩ := effect_fatal h
  · exact hkept
  · exact absurd hreset hi
  · exact absurd hf' hf

/-- R159: with no command in progress the timer does not run. -/
theorem exec_ackTimeout_of_not_waiting {s : State} (hwait : s.hostState ≠ .waitAck) :
    exec .ackTimeout s = .refused .ackTimerNotRunning :=
  if_neg hwait

/-- Settles O52: the events of a broken connection one by one, then every row by its `Effect`. -/
theorem brokenConnectionIsInert : Obligations.BrokenConnectionIsInert := by
  intro s hf
  refine ⟨?ready, fun b => ?discard, fun hidle => ⟨fun block => ?available, ?timeout, ?linkfail⟩,
    fun i t h => ⟨effect_txOut_of_broken (exec_effect h) hf, effect_fatal_of_broken (exec_effect h) hf⟩⟩
  case ready => exact Bool.eq_true_of_not_eq_false fun hr => hf ((rxReady_eq_false s).mp hr).1
  case discard => exact onRow_eq_next.mpr ⟨(rowSelected_fatalDiscard s b).mpr hf, rfl⟩
  case available =>
    rw [exec_available_of_idle hidle]
    cases s.pktValid with
    | true => rw [if_pos rfl]
    | false => rw [if_neg nofun, if_pos (.inr hf)]
  case timeout => exact exec_ackTimeout_of_not_waiting (by simp [hidle])
  case linkfail =>
    obtain ⟨-, -, hagain, -⟩ := linkfailEndsTheConnection s
    exact hagain hf hidle

/-! ### The list of refusals (R190) -/

/-- R90: the row of an accepted byte has its step. -/
theorem exec_of_decodeByte {s : State} {b : Byte} {i : Instr} (h : decodeByte (rxContext s) b = .ok i) :
    ∃ t, exec i s = .next t := by
  obtain ⟨he, -, hsel⟩ := encode_of_decodeByte h
  cases i with
  | rxbBreakTap | rxbStartPacket | rxbStartNotification | rxbAckPlus | rxbAckMinus | rxbDiscard | rxbEndPayload
  | rxbPayloadByte | rxbChecksumHi | rxbChecksumLo | rxbFatalDiscard => exact ⟨_, onRow_eq_next.mpr ⟨hsel, rfl⟩⟩
  | _ => cases he

/-- R32, R90: a byte is refused where the framer is held on a healthy connection. -/
theorem isRefused_step_rxByte {s : State} {b : Byte} {rest : List Input} (hin : s.inputs = .rxByte b :: rest) :
    isRefused (step s) = true ↔ s.fatal = .none ∧ s.rxState = .validate := by
  obtain ⟨hbroken, hheld, haccepted⟩ := receivedBytePassesTheTap s b rest hin
  by_cases hf : s.fatal = .none
  case neg => simp [hbroken hf, hf, isRefused]
  case pos =>
    by_cases hrx : s.rxState = .validate
    case pos => simp [hheld hf hrx, hf, hrx, isRefused]
    case neg =>
      obtain ⟨i, hi, hstep⟩ := haccepted hf hrx
      obtain ⟨t, ht⟩ := exec_of_decodeByte
        (s := { s with inputs := rest, brkClr := false, brk := s.brk || b == 0x03 }) hi
      rw [hstep, ht]
      simp [hrx, isRefused]

/-- R34: a host command is refused while one is in progress. -/
theorem isRefused_onCommand (s : State) (effect : State → State) :
    isRefused (onCommand s effect) = true ↔ s.hostState ≠ .idle := by
  by_cases hidle : s.hostState = .idle
  · simp [onCommand_of_idle hidle, hidle, isRefused]
  · simp [onCommand_of_busy hidle, hidle, isRefused]

/-- R145: `SND` is refused for its length too. -/
theorem isRefused_exec_snd (payload : Bytes) (notif : Bool) (s : State) :
    isRefused (exec (.snd payload notif) s) = true ↔
      s.hostState ≠ .idle ∨ capAdmits s.params.maxPayload payload.length = false := by
  rw [exec, execSnd]
  cases hfit : capAdmits s.params.maxPayload payload.length with
  | true => rw [if_pos rfl, isRefused_onCommand]; simp
  | false => rw [if_neg nofun]; simp [isRefused]

/-- R34, R82, R145: the rows of the command port. -/
theorem isRefused_exec_of_encode_command {i : Instr} {w : Byte} {p : Bytes} (he : encode i = .command w p) (s : State) :
    isRefused (exec i s) = true ↔ s.hostState ≠ .idle ∨ i = .cmdReserved w ∨
      ∃ payload notif, i = .snd payload notif ∧ capAdmits s.params.maxPayload payload.length = false := by
  cases i with
  | available | rcv | pendingBreak | clearBreak | isReliable | setNoack =>
    simp [exec, execAvailable, execRcv, execPendingBreak, execClearBreak, execIsReliable, execSetNoack,
      isRefused_onCommand]
  | snd payload notif => simpa using isRefused_exec_snd payload notif s
  | cmdReserved => cases he; exact iff_of_true rfl (.inr (.inl rfl))
  | _ => cases he

/-- The words of `SND` (R78), which takes the payload beside its word (entry 18). -/
theorem decodeCommand_eq_snd_iff {w : Byte} {payload p : Bytes} {notif : Bool} :
    decodeCommand w payload = .snd p notif ↔ p = payload ∧ w = commandWord 3 notif := by
  have hword : decodeCommand (commandWord 3 notif) payload = .snd payload notif :=
    decodeCommand_of_encode rfl rfl
  constructor
  case mp =>
    intro h
    obtain ⟨⟨q, he⟩, -⟩ := encode_decodeCommand w payload
    obtain ⟨rfl, -⟩ : commandWord 3 notif = w ∧ p = q := by simpa [h, encode] using he
    obtain rfl : payload = p := by simpa [hword] using h
    exact ⟨rfl, rfl⟩
  case mpr => rintro ⟨rfl, rfl⟩; exact hword

/-- R190: a command is refused while one is in progress, as a reserved word, or as a `SND` that is too long. -/
theorem isRefused_step_command {s : State} {w : Byte} {payload : Bytes} {rest : List Input}
    (hin : s.inputs = .command w payload :: rest) :
    isRefused (step s) = true ↔ s.hostState ≠ .idle ∨ decodeCommand w payload = .cmdReserved w ∨
      ((w = 0x03 ∨ w = 0x13) ∧ capAdmits s.params.maxPayload payload.length = false) := by
  obtain ⟨⟨p, he⟩, -⟩ := encode_decodeCommand w payload
  rw [step_of_decode_ok hin rfl, runRows_one, isRefused_exec_of_encode_command he]
  have hfalse : commandWord 3 false = 0x03 := rfl
  have htrue : commandWord 3 true = 0x13 := rfl
  simp [decodeCommand_eq_snd_iff, and_assoc, hfalse, htrue]

/-- R159, R190: of the strobes only `ACK_TIMEOUT` is ever refused. -/
theorem isRefused_step_strobe {s : State} {line : Strobe} {rest : List Input}
    (hin : s.inputs = .strobe line :: rest) :
    isRefused (step s) = true ↔ line = .ackTimeout ∧ s.hostState ≠ .waitAck := by
  rw [step_of_decode_ok hin rfl, runRows_one]
  cases line with
  | brkin | linkfail | reset => simp [decodeStrobe, exec, execBrkin, execLinkfail, execReset, isRefused]
  | ackTimeout =>
    by_cases hwait : s.hostState = .waitAck
    · simp [decodeStrobe, exec_ackTimeout (s := taken rest s) hwait, hwait, isRefused]
    · simp [decodeStrobe, exec_ackTimeout_of_not_waiting (s := taken rest s) hwait, hwait, isRefused]

/-- Settles O8: the three kinds of events one by one; there is no fault to end in (entry 22). -/
theorem eventsAreRefusedExactlyAsListed : Obligations.EventsAreRefusedExactlyAsListed := by
  intro s input rest hin hevent
  refine ⟨?refused, nofun⟩
  cases input with
  | rxByte b => exact isRefused_step_rxByte hin
  | command w payload => exact isRefused_step_command hin
  | strobe line =>
    rw [isRefused_step_strobe hin]
    cases line <;> simp
  | wireForm | checksumChar | transmit | response => cases hevent

end Sys2Proof.Machine
end

section
/-! `RESET` (R200) and the block that is stalled on a held frame (R205). -/

namespace Sys2Proof.Machine

/-! ### `RESET` (R37, R200) -/

/-- R200: the registers of R10 take the values of R37, and what `RESET` keeps is written out as kept. -/
theorem resetRegisters_eq (s : State) :
    resetRegisters s = { s with
      rxState := .scanForStart, ckCnt := false, rxNotif := false, acc := [], accOvf := false, ckHi := 0x00
      ckLo := 0x00, pktValid := false, pktPayload := [], pktNotif := false, noack := false, brk := false
      pend := none, retryCnt := 0, hostState := .idle, resp := none, fatal := .none, work := Work.fresh } :=
  rfl

/-- R189, R200: `RESET` has its step in every state. -/
theorem exec_reset (s : State) : exec .reset s = .next (resetRegisters s) :=
  rfl

/-- R37: a block that stands at the reset values already is left as it is. -/
theorem resetRegisters_start (p : Params) : resetRegisters (State.start p) = State.start p :=
  rfl

/-- Settles O51: the effect of `RESET` written out, at any state and at the reset state, whose status word is
computed. -/
theorem resetRestoresEveryRegister : Obligations.ResetRestoresEveryRegister := by
  refine ⟨fun s => ?registers, ?again, ?status⟩
  case registers => rw [exec_reset, resetRegisters_eq]
  case again => rw [exec_reset, State.reset, resetRegisters_start]
  case status => decide

/-! ### The stalled block (R205) -/

/-- R34, R90, R205: a held framer accepts no byte and a waiting `SND` no command, so that only strobes are left. -/
theorem eq_strobe_of_stalled {i : Instr} {s t : State} (h : Effect i s t) (hevent : isEventRow i = true)
    (hf : s.fatal = .none) (hwait : s.hostState = .waitAck) (hrx : s.rxState = .validate) :
    i = .ackTimeout ∨ i = .linkfail ∨ i = .reset ∨ (i = .brkin ∧ t = { s with brk := true }) := by
  have hbusy : s.hostState ≠ .idle := by simp [hwait]
  cases h with
  | brkin => exact .inr (.inr (.inr ⟨rfl, rfl⟩))
  | linkfailFirst | linkfailWaiting | linkfailAgain | linkfailAgainWaiting => exact .inr (.inl rfl)
  | reset => exact .inr (.inr (.inl rfl))
  | retransmit hi | exhaust hi =>
    obtain ⟨-, -, hscan⟩ | htimeout := hi
    · cases hrx.symm.trans hscan
    · exact .inl htimeout
  | breakTap _ hnot => exact absurd hrx hnot
  | startPacket _ hrow | startNotification _ hrow | ackPlus _ hrow | discard _ hrow | endPayload _ hrow
  | payloadByte _ hrow | payloadByteFull _ hrow | checksumHi _ hrow | frameHeld _ hrow | frameValid _ hrow
  | frameInvalid _ hrow => cases hrx.symm.trans hrow
  | fatalDiscard hbroken => exact absurd hf hbroken
  | availableReady hidle | availableNot hidle | availableWaits hidle | rcvEmpty hidle | rcvPacket hidle
  | rcvHeldValid hidle | rcvHeldInvalid hidle | sndBroken hidle | sndAtOnce hidle | sndWaits hidle
  | pendingBreak hidle | clearBreak hidle | isReliable hidle | setNoack hidle => exact absurd hidle hbusy
  | wireForm hi | checksumChar hi | transmit hi | response hi => simp [isEventRow, hi, isEventInput] at hevent
  | transmitNotDue hi => obtain rfl | rfl := hi <;> cases hevent

/-- Settles O53: the three strobes have their step, and `eq_strobe_of_stalled` says that no other event row moves the
block. -/
theorem stalledBlockMovesOnlyByStrobe : Obligations.StalledBlockMovesOnlyByStrobe := fun s hf hwait hrx =>
  ⟨⟨_, exec_ackTimeout hwait⟩, ⟨_, exec_linkfail s⟩, ⟨_, exec_reset s⟩,
    fun _ _ hevent h => eq_strobe_of_stalled (exec_effect h) hevent hf hwait hrx⟩

end Sys2Proof.Machine
end

section
/-! Corrupted frames (R214): which single flipped bits the checksum catches, and three that it does not. -/

namespace Sys2Proof.Machine

/-! ### What a valid frame says of its checksum -/

/-- R69, R75: a value has one digit. -/
theorem hexVal_inj {a b : Byte} {d : BitVec 4} (ha : hexVal a = some d) (hb : hexVal b = some d) : a = b :=
  (hexChar_of_hexVal a d ha).symm.trans (hexChar_of_hexVal b d hb)

/-- R75: a checksum is written by one pair of characters. -/
theorem carriedChecksum_inj {hi lo hi' lo' v : Byte} (h : carriedChecksum hi lo = some v)
    (h' : carriedChecksum hi' lo' = some v) : hi = hi' ∧ lo = lo' := by
  obtain ⟨a, b, ha, hb, hv⟩ := carriedChecksum_eq_some_iff.mp h
  obtain ⟨a', b', ha', hb', hv'⟩ := carriedChecksum_eq_some_iff.mp h'
  obtain rfl : a = a' := BitVec.eq_of_toNat_eq (by omega)
  obtain rfl : b = b' := BitVec.eq_of_toNat_eq (by omega)
  exact ⟨hexVal_inj ha ha', hexVal_inj hb hb'⟩

/-- R112: of the frames with one wire payload, one pair of checksum characters at most makes a valid frame. -/
theorem checksum_unique {s t : State} (hs : validPayload s ≠ none) (ht : validPayload t ≠ none)
    (hacc : t.acc = s.acc) : t.ckHi = s.ckHi ∧ t.ckLo = s.ckLo := by
  obtain ⟨payload, hs⟩ := Option.ne_none_iff_exists'.mp hs
  obtain ⟨payload', ht⟩ := Option.ne_none_iff_exists'.mp ht
  obtain ⟨-, tokens, hck, htok, -, -⟩ := validPayload_eq_some_iff.mp hs
  obtain ⟨-, tokens', hck', htok', -, -⟩ := validPayload_eq_some_iff.mp ht
  obtain rfl : tokens' = tokens := Option.some.inj (htok'.symm.trans (hacc ▸ htok))
  exact carriedChecksum_inj hck' hck

/-- R72, R73: with no escape undone, the tokens of a wire payload sum to its bytes; a run-length pair counts as its two
bytes. -/
theorem tokSum_of_tokenize {wire : Bytes} {tokens : List Token} (h : tokenize wire = some tokens)
    (hesc : chEscape ∉ wire) : tokSum tokens = sum8 wire := by
  induction wire using tokenize.induct generalizing tokens with
  | case1 => cases h; rfl
  | case2 b hb =>
    rw [tokenize, if_pos hb] at h
    cases h
  | case3 b hb =>
    rw [tokenize, if_neg hb] at h
    cases h
    exact tokSum_map_lit [b]
  | case4 c rest => simp at hesc
  | case5 c rest _ ih =>
    rw [tokenize_star, Option.map_eq_some_iff] at h
    obtain ⟨tokens, hrest, rfl⟩ := h
    rw [tokSum_cons, ih hrest (List.not_mem_of_not_mem_cons (List.not_mem_of_not_mem_cons hesc)), sum8_cons, sum8_cons,
      tokenValue, BitVec.ofNat_add, ← BitVec.add_assoc]
    simp
  | case6 b c rest hb hstar ih =>
    rw [tokenize_plain hb hstar, Option.map_eq_some_iff] at h
    obtain ⟨tokens, hrest, rfl⟩ := h
    rw [tokSum_cons, ih hrest (List.not_mem_of_not_mem_cons hesc), sum8_cons b, tokenValue]
    simp

/-- R112: a valid frame with no escape in its wire payload carries the sum of its bytes. -/
theorem carriedChecksum_of_valid {s : State} (h : validPayload s ≠ none) (hesc : chEscape ∉ s.acc) :
    carriedChecksum s.ckHi s.ckLo = some (sum8 s.acc) := by
  obtain ⟨payload, h⟩ := Option.ne_none_iff_exists'.mp h
  obtain ⟨-, tokens, hck, htok, -, -⟩ := validPayload_eq_some_iff.mp h
  rw [hck, tokSum_of_tokenize htok hesc]

/-! ### One flipped bit -/

theorem flipped_ne (b : Byte) {k : Nat} (hk : k < 8) : b ^^^ BitVec.twoPow 8 k ≠ b := by
  intro h
  have hbit := congrArg (·.getLsbD k) h
  simp [hk] at hbit

/-- One byte changed moves the sum by as much as the byte. -/
theorem sum8_modify_add (f : Byte → Byte) {wire : Bytes} {j : Nat} (hj : j < wire.length) :
    sum8 (wire.modify j f) + wire[j] = sum8 wire + f wire[j] := by
  induction wire generalizing j with
  | nil => cases hj
  | cons b wire ih =>
    cases j with
    | zero => simp only [List.modify_zero_cons, List.getElem_cons_zero, sum8_cons]; ring
    | succ j =>
      have htail := ih (Nat.lt_of_succ_lt_succ hj)
      simp only [List.modify_succ_cons, List.getElem_cons_succ, sum8_cons, BitVec.add_assoc, htail]

/-- A flipped bit changes the sum. -/
theorem sum8_flipped_ne {wire : Bytes} {j k : Nat} (hj : j < wire.length) (hk : k < 8) :
    sum8 (wire.modify j (· ^^^ BitVec.twoPow 8 k)) ≠ sum8 wire := by
  intro hsum
  have hmove := sum8_modify_add (· ^^^ BitVec.twoPow 8 k) hj
  rw [hsum, BitVec.add_right_inj] at hmove
  exact flipped_ne _ hk hmove.symm

/-! ### The flipped bits that are caught -/

/-- R115: in ack mode the last byte of an invalid packet frame answers with one `-`. -/
theorem checksumLo_of_invalid {s : State} (b : Byte) (hf : s.fatal = .none) (hrx : s.rxState = .readChecksum)
    (hck : s.ckCnt = true) (hempty : s.pktValid = false) (hnotif : s.rxNotif = false) (hnoack : s.noack = false)
    (hinvalid : validPayload { s with ckLo := b } = none) :
    ∃ t, exec (.rxbChecksumLo b) s = .next t ∧
      t.pktValid = false ∧ t.txOut = s.txOut ++ [0x2d] ∧ t.raised = s.raised ++ [.checksumMismatch] := by
  have hexec := invalidFrameIsRejected s b hf hrx hck hempty hinvalid
  rw [if_pos ⟨hnotif, hnoack⟩] at hexec
  exact ⟨_, hexec, hempty, rfl, rfl⟩

/-- Settles O29: the wire payload has one valid pair of checksum characters (`checksum_unique`), and the corrupted pair
is another one. -/
theorem corruptedChecksumBitIsCaught : Obligations.CorruptedChecksumBitIsCaught := by
  intro s b k hk hf hrx hck hempty hnotif hnoack hvalid
  refine ⟨checksumLo_of_invalid _ hf hrx hck hempty hnotif hnoack ?second,
    checksumLo_of_invalid b hf hrx hck hempty hnotif hnoack ?first⟩
  case second =>
    by_contra hvalid'
    obtain ⟨-, hlo⟩ := checksum_unique hvalid hvalid' rfl
    exact flipped_ne b hk hlo
  case first =>
    by_contra hvalid'
    obtain ⟨hhi, -⟩ := checksum_unique hvalid hvalid' rfl
    exact flipped_ne s.ckHi hk hhi

/-- Settles O30: the corrupted frame is read whole (`run_wireFrame`); without escapes the carried checksum is the sum of
the bytes, before the change and, were the frame valid, after it, while the flipped bit changes that sum. -/
theorem corruptedPayloadBitIsCaught : Obligations.CorruptedPayloadBitIsCaught := by
  intro s wire hi lo j k rest hk hj hf hrx hempty hnoack hfit hvalid _ hesc hhash hesc' hin
  have hlength : (wire.modify j (· ^^^ BitVec.twoPow 8 k)).length = wire.length := List.length_modify ..
  generalize hwire : wire.modify j (· ^^^ BitVec.twoPow 8 k) = corrupted at hhash hesc' hin hlength
  have hinvalid : validPayload (frameRead false corrupted hi lo rest s) = none := by
    by_contra hvalid'
    have hsum : some (sum8 corrupted) = some (sum8 wire) :=
      (carriedChecksum_of_valid hvalid' hesc').symm.trans (carriedChecksum_of_valid hvalid hesc)
    exact sum8_flipped_ne hj hk (hwire ▸ Option.some.inj hsum)
  have hrun := run_wireFrame (notif := false) (wire := corrupted) hin hf hrx hhash (hlength ▸ hfit)
  rw [tryValidate_invalid (s := frameRead false corrupted hi lo rest s) rfl hempty hinvalid,
    ack_of_healthy (s := frameRead false corrupted hi lo rest s) hf, if_pos ⟨rfl, hnoack⟩] at hrun
  have hsteps : wire.length + 4 = (wireFrame false corrupted hi lo).length := by simp [wireFrame, hlength]
  rw [hsteps]
  exact ⟨_, hrun, rfl, hempty, rfl, rfl, rfl⟩

/-! ### Three that are not caught -/

/-- A run may be cut after any of its steps. -/
theorem run_add_of_next {m : Nat} {s t : State} (h : run m s = .next t) (n : Nat) : run (m + n) s = run n t := by
  induction m generalizing s with
  | zero => cases h; rw [Nat.zero_add]
  | succ m ih =>
    rw [run] at h
    rw [Nat.succ_add, run]
    cases hstep : step s with
    | next u => exact ih (by simpa [hstep] using h)
    | fault | refused => simp [hstep] at h

/-- R93: bytes between frames are discarded by a block that waits for no acknowledgment. -/
theorem run_discardedBytes {s : State} {rest : List Input} (n : Nat) (bytes : Bytes)
    (hin : s.inputs = bytes.map .rxByte ++ rest) (hf : s.fatal = .none) (hrx : s.rxState = .scanForStart)
    (hwait : s.hostState ≠ .waitAck) (hdollar : chDollar ∉ bytes) (hpercent : chPercent ∉ bytes) :
    run (bytes.length + n) s = run n (bytesTaken bytes rest s) := by
  induction bytes generalizing s with
  | nil =>
    obtain rfl : s.inputs = rest := hin
    simp
  | cons b bytes ih =>
    obtain ⟨hb, hdollar⟩ := List.ne_and_not_mem_of_not_mem_cons hdollar
    obtain ⟨hb', hpercent⟩ := List.ne_and_not_mem_of_not_mem_cons hpercent
    have hsel := (rowSelected_discard s b).mpr ⟨⟨⟨⟨hf, hrx⟩, hb.symm⟩, hb'.symm⟩, fun _ => hwait⟩
    rw [List.length_cons, Nat.add_right_comm,
      run_succ_of_rxByte (.rxbDiscard b) _ hin hf rfl nofun hsel (onRow_eq_next.mpr ⟨hsel, rfl⟩),
      ih (by rfl) (by exact hf) (by exact hrx) (by exact hwait) hdollar hpercent, bytesTaken_bytesTaken]
    rfl

/-- R93, R113, R114: a valid frame fills the empty slot, whatever bytes that open no frame come behind it. -/
theorem run_validFrame {s : State} {notif : Bool} {wire payload tail : Bytes} {hi lo : Byte}
    (hin : s.inputs = (wireFrame notif wire hi lo ++ tail).map .rxByte) (hf : s.fatal = .none)
    (hrx : s.rxState = .scanForStart) (hempty : s.pktValid = false) (hidle : s.hostState = .idle)
    (hhash : chHash ∉ wire) (hdollar : chDollar ∉ tail) (hpercent : chPercent ∉ tail)
    (hfit : capAdmits s.params.maxWire wire.length = true)
    (hvalid : validPayload { s with acc := wire, accOvf := false, ckHi := hi, ckLo := lo } = some payload) :
    ∃ t, run (wireFrame notif wire hi lo ++ tail).length s = .next t ∧
      t.pktValid = true ∧ t.pktPayload = payload ∧ t.pktNotif = notif ∧
      t.txOut = s.txOut ++ (if notif = false ∧ s.noack = false then [chPlus] else []) := by
  have hrun := run_wireFrame (s := s) (rest := tail.map .rxByte) (by rw [hin, List.map_append]) hf hrx hhash hfit
  rw [tryValidate_valid (s := frameRead notif wire hi lo (tail.map .rxByte) s) rfl hempty hvalid,
    ack_of_healthy (s := frameRead notif wire hi lo (tail.map .rxByte) s) hf] at hrun
  have hcut := run_add_of_next hrun tail.length
  rw [← List.length_append] at hcut
  refine ⟨_, hcut.trans (run_discardedBytes 0 tail (rest := []) (List.append_nil _).symm hf rfl ?_ hdollar hpercent),
    rfl, rfl, rfl, rfl⟩
  simp [frameRead, bytesTaken, hidle]

/-- `run_validFrame` of a block that has just been reset and has unbounded capacities. -/
theorem run_validFrame_of_start (reliable : Bool) (retries : Nat) {notif : Bool} {wire payload : Bytes} {hi lo : Byte}
    (tokens : List Token) (tail : Bytes) (hhash : chHash ∉ wire) (hdollar : chDollar ∉ tail)
    (hpercent : chPercent ∉ tail) (hck : carriedChecksum hi lo = some (tokSum tokens))
    (htok : tokenize wire = some tokens) (hout : expand tokens = some payload) :
    ∃ t, run (wireFrame notif wire hi lo ++ tail).length { State.start ⟨reliable, retries, .inf, .inf⟩ with
        inputs := (wireFrame notif wire hi lo ++ tail).map .rxByte } = .next t ∧
      t.pktValid = true ∧ t.pktPayload = payload ∧ t.pktNotif = notif ∧
      t.txOut = if notif = false then [chPlus] else [] := by
  obtain ⟨t, hrun, hfull, hpayload, hkind, hack⟩ := run_validFrame
    (s := { State.start ⟨reliable, retries, .inf, .inf⟩ with
      inputs := (wireFrame notif wire hi lo ++ tail).map .rxByte })
    rfl rfl rfl rfl rfl hhash hdollar hpercent rfl
    (validPayload_eq_some_iff.mpr ⟨rfl, tokens, hck, htok, hout, rfl⟩)
  exact ⟨t, hrun, hfull, hpayload, hkind, by simpa [State.start] using hack⟩

/-- Settles O31: each of the three corrupted byte sequences begins with a valid frame, of other tokens or of another
kind, and the block delivers that frame. -/
theorem someCorruptionIsNotCaught : Obligations.SomeCorruptionIsNotCaught := by
  rintro reliable retries start rfl
  refine ⟨?terminator, ?escape, ?marker⟩
  case terminator =>
    obtain ⟨t, hrun, hfull, hpayload, -, hack⟩ := run_validFrame_of_start reliable retries (notif := false)
      (wire := [0x41]) (hi := 0x34) (lo := 0x31) [.lit 0x41] [0x23, 0x30, 0x39]
      (by decide) (by decide) (by decide) rfl rfl rfl
    exact ⟨t, hrun, hfull, hpayload, hack⟩
  case escape =>
    obtain ⟨t, hrun, hfull, hpayload, -, hack⟩ := run_validFrame_of_start reliable retries (notif := false)
      (wire := [0x7d, 0x7d, 0x0a]) (hi := 0x36) (lo := 0x37) [.lit 0x5d, .lit 0x0a] []
      (by decide) (by decide) (by decide) rfl rfl rfl
    exact ⟨t, hrun, hfull, hpayload, hack⟩
  case marker =>
    obtain ⟨t, hrun, hfull, -, hkind, hack⟩ := run_validFrame_of_start reliable retries (notif := true)
      (wire := [0x6d, 0x30, 0x2c, 0x34]) (hi := 0x66) (lo := 0x64)
      [.lit 0x6d, .lit 0x30, .lit 0x2c, .lit 0x34] [] (by decide) (by decide) (by decide) rfl rfl rfl
    exact ⟨t, hrun, hfull, hkind, hack⟩

end Sys2Proof.Machine
end
